-- ==== Sys2Proof/Word.lean ====
section
/-! DEFINITION. The words of the CL-440: bytes and link words of the media link, 48-bit time values, 16-bit
sequence numbers, 64-bit playheads, and the numbers of slots, lanes, routes and sense inputs
(spec/00, Principal quantities). -/

namespace Sys2Proof

/-- A data byte of a frame (R19), or a byte of the store memory (R108). -/
abbrev Byte := BitVec 8

/-- A link word: bit 9 parity, bit 8 control flag, bits 7 to 0 data (spec/02 section 2.1). -/
abbrev LinkWord := BitVec 10

/-- A local time or a group time: 48 bits, wrapping (spec/00, Time). -/
abbrev Time := BitVec 48

/-- A frame sequence number: 16 bits, wrapping (spec/00, Distances). -/
abbrev Seq := BitVec 16

/-- A playhead: 48 whole-tick bits and 16 fraction bits, wrapping (R128). -/
abbrev Playhead := BitVec 64

/-- A stored or emitted sample value: 24 bits, two's complement (R109, R169). -/
abbrev Sample := BitVec 24

/-- A group slot, 0 to 3 (spec/03 section 3.3). -/
abbrev SlotId := Fin 4

/-- A lane with its sample port and amplifier enable, 0 to 3 (spec/08). -/
abbrev LaneId := Fin 4

/-- A route, 0 to 7 (R88). -/
abbrev RouteId := Fin 8

/-- A sense input: 0 is SNS0, 1 is SNS1 (spec/10 section 10.4). -/
abbrev InputId := Fin 2

end Sys2Proof
end

