-- ==== Sys2Proof/Syntax.lean ====
section
/-! DEFINITION. The commands of the CL-440: one constructor for each row of spec/opcode_table.json, in the table's order.
The table gives no row an operand. A command carries what its event brings from outside the state:
`now`, the value of the local media counter at the event's moment, where the event reads the counter (log entry 2); the
bits of a link word; strap and pin levels; an edge count; and the slot, lane or input concerned (log entry 21).
A management request carries no operand: it executes the item at the head of the engine's list (R179). -/

namespace Sys2Proof

inductive Instr where
  /-- POWER_ON_RESET: RSTN is asserted, or power comes up (R9). -/
  | powerOnReset
  /-- RSTN_RELEASE: the release of reset, with the strap levels ADR3 to ADR0 and AENPOL (R177). -/
  | rstnRelease (adr : BitVec 4) (aenpol : Bool)
  /-- SOF_ARRIVAL: the control word SOF arrives with the parity bit given; good parity is `false` (R1, R6). -/
  | sofArrival (now : Time) (parity : Bool)
  /-- DATA_BYTE_ARRIVAL: a data word, or any word of bad parity, arrives (R1, R3). -/
  | dataByteArrival (word : LinkWord)
  /-- EOF_ARRIVAL: the control word EOF arrives with the parity bit given (R1, R3). -/
  | eofArrival (parity : Bool)
  /-- ABT_ARRIVAL: the control word ABT arrives with the parity bit given (R1, R3). -/
  | abtArrival (parity : Bool)
  /-- BAD_CODE_ARRIVAL: a control word with another code arrives (R2, R19). -/
  | badCodeArrival (parity : Bool) (code : Byte)
  /-- IDLE_ARRIVAL: the control word IDLE arrives with the parity bit given (R2). -/
  | idleArrival (parity : Bool)
  /-- DISPATCH: the dispatcher takes the oldest entry (R28). -/
  | dispatch (now : Time)
  /-- FILTER_BLOCK_COMPLETE: the slot's completed filter block is made a result (R68, R74). -/
  | filterBlockComplete (slot : SlotId)
  /-- MGMT_COPY_END: the copy of a REQUEST frame into the management queue ends (R31). -/
  | mgmtCopyEnd
  /-- STORE_BURST_END: the store burst under way ends (R122). -/
  | storeBurstEnd
  /-- PLACEMENT_COMPLETE: the placement in flight, its last burst ended, is settled (R120). -/
  | placementComplete
  /-- DEPARTURE_START: the transmitter selects a frame and sends its SOF (R13). -/
  | departureStart (now : Time)
  /-- DEPARTURE_END: the EOF of the frame in departure is sent (R17). -/
  | departureEnd
  /-- TXHOLD_ASSERT (R14). -/
  | txholdAssert
  /-- TXHOLD_RELEASE (R14). -/
  | txholdRelease
  /-- OUTPUT_INSTANT: the counter takes the value `now`, a multiple of 512; the sense pins stand at the levels given.
  `senseFirst` says whether a sense input accepted at this moment is taken before the lanes' steps or after them (R166). -/
  | outputInstant (now : Time) (sns0 sns1 senseFirst : Bool)
  /-- RAMP_IN_END: the lane has handed on its sample at ramp-in level 64 (R139). -/
  | rampInEnd (lane : LaneId)
  /-- RAMP_END: the lane has made the 64th step of its ramp-down (R141). -/
  | rampEnd (lane : LaneId)
  /-- AMP_HOLD_EXPIRY: the counter takes the value at which the lane's hold timer expires (R173). -/
  | ampHoldExpiry (now : Time) (lane : LaneId)
  /-- SENSE_ACCEPT: the run count of the input has reached 48 (R175). -/
  | senseAccept (input : InputId)
  /-- MONITOR_WINDOW_END: a monitor window ends; `edges` REFIN edges of it were not yet counted (R36, R38). -/
  | monitorWindowEnd (edges : Nat)
  /-- TICK_DUE: a bit of the counter rises at the value `now`; same-moment offers join the SOUNDING class in the
  order given, slots not named after them (R52). -/
  | tickDue (now : Time) (order : List SlotId)
  /-- STREAM_DUE: the counter takes the value of the slot's armed STREAM due event (R53). -/
  | streamDue (now : Time) (slot : SlotId)
  /-- SOUNDING_TIMEOUT: the counter takes the value of the slot's deadline (R57). -/
  | soundingTimeout (now : Time) (slot : SlotId)
  /-- HOLDOVER_ENTERED: the lost count of the slot has reached holdover-enter (R79). -/
  | holdoverEntered (slot : SlotId)
  /-- LEADER_LOST: the lost count of the slot has reached the holdover limit (R81). -/
  | leaderLost (slot : SlotId)
  /-- MGMT_FRAME_BEGIN: the engine takes the oldest frame of its queue (R178). -/
  | mgmtFrameBegin
  /-- UNKNOWN_REQUEST: the engine judges an item whose code names no request (R180). -/
  | unknownRequest
  | identify
  | status
  | conditionsClear
  | conditionsMask
  | timebaseSelect
  | groupSet (now : Time)
  | groupClear
  | groupSound
  | groupMeasure
  | routeArm
  | routeDisarm (now : Time)
  | routeCounts
  | laneBind (now : Time)
  /-- LANE_WAIT_END: the lane reports its staged change absent (R182). -/
  | laneWaitEnd (now : Time)
  | laneUnbind (now : Time)
  | laneGain
  | senseAction
  | slotPeek
  /-- SLOT_PEEK_GRANT: the arbiter grants the waiting SLOT-PEEK (R122, R125). -/
  | slotPeekGrant
  | pageRuns
  | deviceReset
deriving DecidableEq, Repr

end Sys2Proof
end

