-- ==== Sys2Proof/Decode.lean ====
section
/-! DEFINITION. The command a word spells by the table's bits. No row of spec/opcode_table.json gives bits (its rows
carry an empty list of fields), so no word spells a command. The link words of spec/02 section 2.1 are not command
words: a link word arrives as the operand of an arrival command, and `Machine/Link.lean` classifies it (R19). -/

namespace Sys2Proof

/-- The command that the `nbits` low bits of `w` spell by spec/opcode_table.json: none, for every word. -/
def decodeTableWord (_nbits _w : Nat) : Option Instr := none

end Sys2Proof
end

