-- ==== Sys2Proof/Config.lean ====
section
/-! DEFINITION. What the CL-440 fixes in number (spec/00, Principal quantities), and the one value the model chooses for
a byte of the store memory that nothing has written. There is no free value: the spec leaves no result of a command
undefined; what it leaves to the moment (the order of events that fall together) is the order of the commands. -/

namespace Sys2Proof.Config

/-- R6: entries of the ingress queue. -/
def ingressEntries : Nat := 4
/-- R4: the most data bytes a frame holds. -/
def maxFrameBytes : Nat := 2048
/-- R11: entries of the RETURN class. -/
def returnEntries : Nat := 4
/-- R11: frames of the SOURCE class. -/
def sourceEntries : Nat := 4
/-- R31: frames of the management queue. -/
def mgmtFrames : Nat := 2
/-- R108: pages of the jitter store. -/
def pages : Nat := 1024
/-- R108: bytes of a page. -/
def pageBytes : Nat := 256
/-- R108: bytes of a stored sample frame. -/
def sampleBytes : Nat := 8
/-- R108: stored sample frames of a page. -/
def pageSamples : Nat := 32
/-- R65: entries of a delay history. -/
def historyEntries : Nat := 8
/-- R132: the prime margin in ticks. -/
def primeMargin : Nat := 1024
/-- R173: the amplifier hold in ticks. -/
def ampHold : Nat := 2 ^ 25
/-- R175: output instants a sense pin must hold a new level. -/
def debounce : Nat := 48
/-- R140: output instants of a ramp. -/
def rampLength : Nat := 64

/-- R127 leaves the memory's contents as they are; a byte nothing has written reads as 0 here.
DESIGN CHOICE (log entry 7): no lane reads a byte that no placement has written. -/
def unlistedByte : Byte := 0

/-- R184. -/
def vendorCode : Nat := 0x0E52
/-- R184. -/
def partCode : Nat := 0x0440
/-- R184. -/
def revision : Nat := 1

end Sys2Proof.Config
end

