-- ==== Sys2Proof/Machine/State.lean ====
section
/-! DEFINITION. The state of the CL-440: every record, queue, counter, mode and pin the spec gives it, as plain data, and the
state just after reset. Absent fields of the spec are `none`. Fields that the model adds are said to be its own. -/

namespace Sys2Proof.Machine

/-! ### The timebase (spec/03) -/

/-- R36 to R38: the timebase machine. -/
inductive TimebaseState where
  | xo | pending | refin
deriving DecidableEq, Repr

/-- The timebase: the local media counter, the machine, the selection and the monitor's edge count. -/
structure Timebase where
  /-- R33: the local media counter. -/
  lmc : Time
  /-- The model's own: the output instant of the present counter value has been taken (R34: one for each value). -/
  instantTaken : Bool
  /-- The model's own: the rising tick bit of the present counter value has been taken (R35, R52). -/
  tickTaken : Bool
  /-- R36: the machine's state. -/
  state : TimebaseState
  /-- R37: the selection, true for REFIN. -/
  selectRefin : Bool
  /-- R36: REFIN edges counted in the window under way. -/
  monitorEdges : Nat
deriving DecidableEq, Repr

/-! ### Pins and straps (spec/10) -/

/-- Input pins and what the straps gave. -/
structure Pins where
  /-- RSTN is asserted. -/
  inReset : Bool
  /-- R14: TXHOLD is asserted. -/
  txhold : Bool
  /-- R177: ADR3 to ADR0 as sampled. -/
  straps : BitVec 4
  /-- R174: AENPOL as sampled, true for high. -/
  aenpol : Bool
  /-- R177: the own link address, 0 to 14. -/
  linkAddress : Byte
deriving DecidableEq, Repr

/-! ### The link receiver and the dispatcher (spec/01, spec/02) -/

/-- Spec/01 section 1.4: the phase of an ingress entry. -/
inductive EntryPhase where
  | receiving | complete
deriving DecidableEq, Repr

/-- Spec/01 section 1.4: an entry of the ingress queue; its byte count is the length of `bytes`. -/
structure IngressEntry where
  phase : EntryPhase
  /-- R5: the local time of the SOF. -/
  stamp : Time
  bytes : List Byte
  /-- R1: some word of the frame had bad parity. -/
  parityMark : Bool
  /-- R104: a ROUTE-DISARM of the route that the frame's lookup matched has come between the lookup and the route unit's
  decision (log entry 24). -/
  disarmed : Bool := false
deriving DecidableEq, Repr

/-- R27: the owner that holds the oldest entry while the dispatcher is HANDED. -/
inductive Owner where
  /-- The route unit, with a placement in flight (R119). -/
  | routeUnit
  /-- The management queue, for the duration of the copy (R31). -/
  | mgmtCopy
  /-- The group timing unit, whose act on a return goes on with a completed filter block (R63, R74). -/
  | timingUnit (slot : SlotId)
deriving DecidableEq, Repr

/-- The link receiver's state and queue, and the dispatcher's hand-off. -/
structure Receiver where
  /-- R2, R3: true in INSIDE, false in OUTSIDE. -/
  inside : Bool
  /-- R6: oldest first, at most four. -/
  ingress : List IngressEntry
  /-- R27: the dispatcher is HANDED and this owner holds the oldest entry. -/
  hand : Option Owner
deriving DecidableEq, Repr

/-! ### The link transmitter (spec/01) -/

/-- Spec/01 section 1.5: the four departure classes. -/
inductive DepartureClass where
  | ret | sounding | source | reply
deriving DecidableEq, Repr

/-- R16: an entry of the RETURN class. -/
structure ReturnEntry where
  slot : SlotId
  tag : Byte
  bytes : List Byte
deriving DecidableEq, Repr

/-- R15: an entry of the SOUNDING class. -/
structure SoundingEntry where
  slot : SlotId
  seq : BitVec 8
  bytes : List Byte
deriving DecidableEq, Repr

/-- R13: the frame in departure, as it goes out. -/
structure Departing where
  cls : DepartureClass
  bytes : List Byte
deriving DecidableEq, Repr

/-- The link transmitter: `departing` is absent in FREE and holds the frame in SENDING. -/
structure Transmitter where
  departing : Option Departing
  ret : List ReturnEntry
  snd : List SoundingEntry
  src : List (List Byte)
  rep : List (List Byte)
  /-- The words that the last departure event put on the transmit line (R10, R19; log entry 13). The IDLE words of FREE are
  `State.txLine`'s (Machine/Departures.lean). -/
  words : List LinkWord
deriving DecidableEq, Repr

/-! ### Group slots (spec/03 section 3.3) -/

/-- Role of a slot in use. -/
inductive Role where
  | leader | follower
deriving DecidableEq, Repr

/-- Spec/04 section 4.1: when a follower sounds. -/
inductive TriggerMode where
  | off | once | stream | tick
deriving DecidableEq, Repr

/-- R40: the group states. -/
inductive GroupState where
  | idle | leading | acquire | track | locked | holdover
deriving DecidableEq, Repr

/-- The configuration fields of a slot, written by GROUP-SET alone (spec/03 section 3.3). -/
structure SlotConfig where
  leader : Byte
  mode : TriggerMode
  tickBit : Nat
  timeout : Nat
  filterN : Nat
  gate : Nat
  response : Nat
  window : Nat
  lockCount : Nat
  unlockCount : Nat
  holdoverEnter : Nat
  holdoverLimit : Nat
deriving DecidableEq, Repr

/-- Spec/03 section 3.4: a timeline map. -/
structure TimelineMap where
  al : Time
  ag : Time
  trim : Int
deriving DecidableEq, Repr

/-- Spec/04 section 4.2: a sounding record. -/
inductive SoundingRecord where
  | queued (seq : BitVec 8)
  | outstanding (seq : BitVec 8) (t1 deadline : Time)
deriving DecidableEq, Repr

/-- R68: the last result: E, P, N and the rejected count of its block. -/
structure FilterResult where
  e : Int
  p : Nat
  n : Nat
  rejected : Nat
deriving DecidableEq, Repr

/-- R79, R81: the transition that an increase of the lost count calls for. -/
inductive LossEvent where
  | holdover | leaderLost
deriving DecidableEq, Repr

/-- A group slot. -/
structure GroupSlot where
  tag : Byte
  role : Option Role
  /-- Absent until GROUP-SET writes it (R51). -/
  config : Option SlotConfig
  state : GroupState
  map : Option TimelineMap
  /-- R71: the integrator I, in units of 2^-32. -/
  integrator : Int
  seqCounter : BitVec 8
  record : Option SoundingRecord
  /-- R53: the armed STREAM due time. -/
  streamDue : Option Time
  /-- R65: path delays, oldest first. -/
  history : List Nat
  errSum : Int
  pathSum : Nat
  accepted : Nat
  rejected : Nat
  insideRun : Nat
  outsideRun : Nat
  lost : Nat
  lastResult : Option FilterResult
  ready : Bool
  answered : Nat
  /-- The model's own: t4 of the return that completed the filter block, until the block is made a result (R67, R74). -/
  blockDone : Option Time
  /-- The model's own: what the last increase of the lost count calls for, until it takes place (R79, R81). -/
  lossDue : Option LossEvent
deriving DecidableEq, Repr

/-! ### Routes (spec/06) -/

/-- R88. -/
inductive RouteState where
  | free | armed | live | draining
deriving DecidableEq, Repr

/-- R88: SINK or SOURCE. -/
inductive RouteMode where
  | sink | source
deriving DecidableEq, Repr

/-- R153. -/
inductive ConcealMode where
  | silence | repeat
deriving DecidableEq, Repr

/-- R88: the fields a route holds while it is not FREE. -/
structure RouteConfig where
  stream : BitVec 16
  slot : SlotId
  mode : RouteMode
  depth : Nat
  slotPages : Nat
  firstPage : Nat
  concealMode : ConcealMode
  concealLimit : Nat
  /-- Present on a SOURCE route only. -/
  lead : Option Nat
deriving DecidableEq, Repr

/-- R100: the eight counters. -/
structure RouteCounters where
  accepted : Nat
  duplicate : Nat
  late : Nat
  ahead : Nat
  oversize : Nat
  misdirected : Nat
  concealed : Nat
  restamped : Nat
deriving DecidableEq, Repr

/-- R113: what a VALID entry holds. -/
structure StoredFrame where
  seq : Seq
  pt : Time
  n : Nat
  restart : Bool
deriving DecidableEq, Repr

/-- R113: an entry of a slot directory. -/
inductive DirEntry where
  | invalid
  | inPlacement (seq : Seq)
  | valid (frame : StoredFrame)
deriving DecidableEq, Repr

/-- A route of the route table, with its slot directory (R88, R113). -/
structure Route where
  state : RouteState
  config : Option RouteConfig
  /-- R114: the release point. -/
  release : Option Seq
  /-- R98: the next sequence of a SOURCE route. -/
  nextSeq : Option Seq
  /-- R98: last PT and last n, absent until the first stamp. -/
  lastStamp : Option (Time × Nat)
  counters : RouteCounters
  /-- R113: D entries; none while FREE. -/
  dir : List DirEntry
deriving DecidableEq, Repr

/-! ### The jitter store (spec/07) -/

/-- R119: the placement in flight. -/
structure Placement where
  route : RouteId
  /-- Index of the entry IN PLACEMENT. -/
  index : Nat
  frame : StoredFrame
  /-- First byte of the entry in the store memory. -/
  base : Nat
  /-- The frame's samples in stored form (R109). -/
  data : List Byte
  /-- Pages whose write burst has ended. -/
  written : Nat
  /-- R104, R121: abandoned; the burst under way ends first. -/
  abandoned : Bool
deriving DecidableEq, Repr

/-- R122: the burst under way. -/
inductive Burst where
  | laneRead (lane : LaneId) (page : Nat)
  | write (base : Nat) (bytes : List Byte)
  | peek
deriving DecidableEq, Repr

/-- The jitter store: page map, memory, placement in flight and arbiter. -/
structure Store where
  /-- R110: the owner of each of the 1,024 pages. -/
  pages : List (Option RouteId)
  /-- R108: the memory, in canonical form (`Machine/Memory.lean`). -/
  mem : List Host.Cell
  placement : Option Placement
  burst : Option Burst
  /-- R149: pages each lane waits to read, in the order it asked. -/
  reads : Vector (List Nat) 4
deriving DecidableEq, Repr

/-! ### Lanes and the output stage (spec/08 to spec/10) -/

/-- R128. -/
inductive LaneState where
  | stop | wait | prime | play | rampdown
deriving DecidableEq, Repr

/-- R168. -/
inductive Plan where
  | stereo | left | right | mix
deriving DecidableEq, Repr

/-- R172. -/
inductive AmpMode where
  | off | on | auto
deriving DecidableEq, Repr

/-- R142: whether the current frame is stored or concealed. -/
inductive FrameKind where
  | present | concealed
deriving DecidableEq, Repr

/-- R128: a lane's current frame. -/
structure CurrentFrame where
  seq : Seq
  pt : Time
  n : Nat
  kind : FrameKind
deriving DecidableEq, Repr

/-- R140: where a ramp-down leads. -/
inductive Destination where
  | wait | stop
deriving DecidableEq, Repr

/-- R139, R140: a ramp. `up m` is a ramp-in whose next sample has level m, 65 once level 64 has been handed on; `down c m d`
is a ramp-down whose next step is the c-th, 65 once the 64th has been made. -/
inductive Ramp where
  | up (level : Nat)
  | down (count level : Nat) (dest : Destination)
deriving DecidableEq, Repr

/-- R161: a staged change, or the settings a request carries. -/
structure Settings where
  route : Option RouteId
  plan : Option Plan
  gain : Option Nat
  delay : Option Nat
  amp : Option AmpMode
deriving DecidableEq, Repr

/-- R128: a lane's record. -/
structure Lane where
  state : LaneState
  route : Option RouteId
  plan : Plan
  gain : Nat
  delay : Nat
  ampMode : AmpMode
  staged : Option Settings
  playhead : Option Playhead
  current : Option CurrentFrame
  repeatSrc : Option Seq
  concealedRun : Nat
  ramp : Option Ramp
  /-- R173: the expiry of a running amp-hold timer; none while it is stopped. -/
  holdTimer : Option Time
deriving DecidableEq, Repr

/-- A stereo pair of 24-bit values. -/
structure Pair where
  left : Sample
  right : Sample
deriving DecidableEq, Repr

/-- R171: each port's output register, and the pair of the frame it is shifting. -/
structure OutputPorts where
  reg : Vector Pair 4
  frame : Vector Pair 4
deriving DecidableEq, Repr

/-- R176. -/
inductive SenseAction where
  | none | muteAll
deriving DecidableEq, Repr

/-- Spec/10 section 10.4: a sense input. -/
structure SenseInput where
  /-- The pin's level when last sampled; an input, kept across resets. -/
  pin : Bool
  /-- The accepted level, true for active. -/
  accepted : Bool
  run : Nat
  action : SenseAction
  latch : Bool
deriving DecidableEq, Repr

/-! ### The management engine (spec/11) -/

/-- An item of a REQUEST frame (spec/02 section 2.5). -/
structure Item where
  code : Byte
  operands : List Byte
deriving DecidableEq, Repr

/-- The statuses of spec/02 section 2.5. -/
inductive Status where
  | done | refusedState | refusedIndex | refusedSpace | refusedInUse | unknownRequest | malformedRequest | notRun
deriving DecidableEq, Repr

/-- A result of a REPLY frame (R24). -/
structure ItemResult where
  code : Byte
  status : Status
  data : List Byte
deriving DecidableEq, Repr

/-- R31: a frame of the management queue. `copied` is false while its copy from the ingress queue is under way. -/
structure MgmtFrame where
  addressed : Bool
  bytes : List Byte
  copied : Bool
deriving DecidableEq, Repr

/-- Spec/11 section 11.1: the engine's states. -/
inductive EnginePhase where
  | idle | replyWait | running
  | laneWait (lane : LaneId)
  | storeWait (route : RouteId) (first count : Nat)
  | resetWait
deriving DecidableEq, Repr

/-- The management engine and its queue. -/
structure Mgmt where
  queue : List MgmtFrame
  phase : EnginePhase
  /-- Items of the frame in hand not yet ended, the one in execution first. -/
  todo : List Item
  /-- Results so far, in list order. -/
  results : List ItemResult
deriving DecidableEq, Repr

/-- R192: the condition set and the mask, condition k at bit k. -/
structure Conditions where
  present : BitVec 32
  mask : BitVec 32
deriving DecidableEq, Repr

/-! ### The whole part -/

/-- The state of the CL-440. -/
structure State where
  time : Timebase
  pins : Pins
  rx : Receiver
  tx : Transmitter
  slots : Vector GroupSlot 4
  routes : Vector Route 8
  store : Store
  lanes : Vector Lane 4
  out : OutputPorts
  sense : Vector SenseInput 2
  mgmt : Mgmt
  cond : Conditions
  /-- The model's own: commands waiting, first in, first out. -/
  pending : List Instr
deriving DecidableEq, Repr

/-- The spec lets no command stop the part: errors are conditions (R192), statuses (R180) and discarded frames (R28).
So there is no fault; nothing raises one. -/
inductive Fault where
deriving DecidableEq, Repr

/-- Why a command has no meaning. -/
inductive Refusal where
  /-- The command is not modelled yet; raised by `exec` alone, and safe. No arm of `exec` raises it now. -/
  | notModelled (mnemonic : String)
deriving DecidableEq, Repr

/-! ### Reset values -/

/-- R51: a slot not in use. -/
def GroupSlot.unused : GroupSlot :=
  { tag := 0, role := none, config := none, state := .idle, map := none, integrator := 0, seqCounter := 0,
    record := none, streamDue := none, history := [], errSum := 0, pathSum := 0, accepted := 0, rejected := 0,
    insideRun := 0, outsideRun := 0, lost := 0, lastResult := none, ready := false, answered := 0,
    blockDone := none, lossDue := none }

/-- R92, R107: counters all 0. -/
def RouteCounters.zero : RouteCounters :=
  { accepted := 0, duplicate := 0, late := 0, ahead := 0, oversize := 0, misdirected := 0, concealed := 0,
    restamped := 0 }

/-- R107: a FREE route with its counters 0. -/
def Route.unused : Route :=
  { state := .free, config := none, release := none, nextSeq := none, lastStamp := none,
    counters := RouteCounters.zero, dir := [] }

/-- R151: a lane after reset. -/
def Lane.afterReset : Lane :=
  { state := .stop, route := none, plan := .stereo, gain := 32768, delay := 0, ampMode := .auto, staged := none,
    playhead := none, current := none, repeatSrc := none, concealedRun := 0, ramp := none, holdTimer := none }

/-- The pair 0, 0. -/
def Pair.zero : Pair := { left := 0, right := 0 }

/-- R9, R32: the receiver OUTSIDE, the ingress queue empty, the dispatcher IDLE. -/
def Receiver.afterReset : Receiver := { inside := false, ingress := [], hand := none }

/-- R18: the transmitter FREE, every class empty. -/
def Transmitter.afterReset : Transmitter :=
  { departing := none, ret := [], snd := [], src := [], rep := [], words := [] }

/-- R178: the engine IDLE, its queue empty. -/
def Mgmt.afterReset : Mgmt := { queue := [], phase := .idle, todo := [], results := [] }

/-- R33, R39: the counter 0, counting XO, the first window begun; 0 is no output instant (R34). -/
def Timebase.afterReset : Timebase :=
  { lmc := 0, instantTaken := true, tickTaken := true, state := .xo, selectRefin := false, monitorEdges := 0 }

/-- R127: every page free, no placement, no request; the memory's contents are given. -/
def Store.afterReset (mem : List Host.Cell) : Store :=
  { pages := List.replicate Config.pages none, mem := mem, placement := none, burst := none,
    reads := Vector.replicate 4 [] }

/-- R175, R176: an input after reset, its pin standing at the level given. -/
def SenseInput.afterReset (pin : Bool) : SenseInput :=
  { pin := pin, accepted := false, run := 0, action := .none, latch := false }

/-- The part just after the release of reset, with nothing listed in the store memory. DESIGN CHOICE where the spec gives no
value: straps sampled as 0 and AENPOL low (log entry 5), TXHOLD deasserted and both sense pins low (log entry 6). -/
def State.reset : State :=
  { time := Timebase.afterReset
    pins := { inReset := false, txhold := false, straps := 0, aenpol := false, linkAddress := 0 }
    rx := Receiver.afterReset
    tx := Transmitter.afterReset
    slots := Vector.replicate 4 GroupSlot.unused
    routes := Vector.replicate 8 Route.unused
    store := Store.afterReset []
    lanes := Vector.replicate 4 Lane.afterReset
    out := { reg := Vector.replicate 4 Pair.zero, frame := Vector.replicate 4 Pair.zero }
    sense := Vector.replicate 2 (SenseInput.afterReset false)
    mgmt := Mgmt.afterReset
    cond := { present := 0, mask := 0 }
    pending := [] }

end Sys2Proof.Machine
end

