-- ==== Sys2Proof/Machine/Arith.lean ====
section
/-! DEFINITION. The arithmetic of spec/00, Conventions: signed distances on wrapping values, floor division, clamping,
saturating counters, and byte order. Every division in the model is by a positive number, where Lean's `/` on `Int`
is the floor division of spec/00, Rounding. -/

namespace Sys2Proof.Machine

/-- Spec/00: the signed distance from `b` to `a` of two time values, from -2^47 to 2^47 - 1 (R35). -/
def timeDist (b a : Time) : Int := (a - b).toInt

/-- Spec/00: the signed distance from `b` to `a` of two sequence numbers, from -32,768 to 32,767 (R35). -/
def seqDist (b a : Seq) : Int := (a - b).toInt

/-- R137: the signed distance from `b` to `a` of two playheads, from -2^63 to 2^63 - 1. -/
def headDist (b a : Playhead) : Int := (a - b).toInt

/-- A time value plus a signed number of ticks, modulo 2^48. -/
def addTicks (t : Time) (d : Int) : Time := t + BitVec.ofInt 48 d

/-- R134, R137: a group time as a playhead with fraction 0. -/
def timeToHead (t : Time) : Playhead := (t.setWidth 64) <<< 16

/-- Spec/00, Rounding: replacing a value outside a range by the nearer end. -/
def clampInt (lo hi x : Int) : Int := if x < lo then lo else if hi < x then hi else x

/-- Clamping of a number that is not negative. -/
def clampNat (lo hi x : Nat) : Nat := if x < lo then lo else if hi < x then hi else x

/-- Spec/00, Counters: a 16-bit counter raised by one, saturating at 65,535. -/
def countUp (n : Nat) : Nat := if n < 65535 then n + 1 else 65535

/-- Spec/00, Byte order: a number in `k` bytes, most significant first. -/
def beBytes : Nat → Nat → List Byte
  | 0, _ => []
  | k + 1, v => BitVec.ofNat 8 (v / 256 ^ k) :: beBytes k v

/-- A signed number in `k` bytes, two's complement, most significant byte first (R185). -/
def beBytesInt (k : Nat) (v : Int) : List Byte := beBytes k (v % (256 ^ k : Nat)).toNat

/-- The number that bytes spell, most significant first. -/
def beNat (bs : List Byte) : Nat := bs.foldl (fun acc b => acc * 256 + b.toNat) 0

/-- The byte at an offset; 0 past the end. -/
def byteAt (bs : List Byte) (k : Nat) : Byte := bs.getD k 0

/-- The number in `len` bytes from an offset. -/
def fieldAt (bs : List Byte) (off len : Nat) : Nat := beNat ((bs.drop off).take len)

/-- The 48-bit time value in the six bytes from an offset. -/
def timeAt (bs : List Byte) (off : Nat) : Time := BitVec.ofNat 48 (fieldAt bs off 6)

/-- Six bytes of a frame replaced by a time value, most significant byte first (R15, R16). -/
def putTime (bs : List Byte) (off : Nat) (t : Time) : List Byte :=
  bs.take off ++ beBytes 6 t.toNat ++ bs.drop (off + 6)

/-- R183: a yes-or-no field in a report. -/
def boolByte (b : Bool) : Byte := if b then 1 else 0

/-- A list with `len` elements from `first` on replaced by one value. -/
def fillRun {α : Type} (l : List α) (first len : Nat) (v : α) : List α :=
  l.take first ++ List.replicate len v ++ l.drop (first + len)

/-- The four slots, in slot order. -/
def allSlots : List SlotId := [0, 1, 2, 3]

/-- The four lanes, in lane order (R132). -/
def allLanes : List LaneId := [0, 1, 2, 3]

/-- The eight routes, in route order. -/
def allRoutes : List RouteId := [0, 1, 2, 3, 4, 5, 6, 7]

end Sys2Proof.Machine
end

