-- ==== Sys2Proof/Machine/Frames.lean ====
section
/-! DEFINITION. Frame and word layouts (spec/02): link words, headers, the bodies of the five kinds, and the frames the part
builds (R25, R26). -/

namespace Sys2Proof.Machine

/-! ### Link words (section 2.1) -/

/-- The ones among the ten bits of a word. -/
def onesOf (w : LinkWord) : Nat := ((List.range 10).filter (fun k => w.getLsbD k)).length

/-- R1: good parity is an odd count of ones. -/
def goodParity (w : LinkWord) : Bool := onesOf w % 2 == 1

/-- R19: what a word of good parity is. -/
inductive WordKind where
  | data | idle | sof | eof | abt | badCode
deriving DecidableEq, Repr

/-- The data bits of a word. -/
def wordByte (w : LinkWord) : Byte := w.setWidth 8

/-- R19: the comparison with the four codes is exact. -/
def wordKind (w : LinkWord) : WordKind :=
  if w.getLsbD 8 then
    if wordByte w = 0x3C then .idle
    else if wordByte w = 0xA5 then .sof
    else if wordByte w = 0x5A then .eof
    else if wordByte w = 0xF0 then .abt
    else .badCode
  else .data

/-- A control word with the parity bit and data bits given. -/
def controlWord (parity : Bool) (code : Byte) : LinkWord := BitVec.ofBool parity ++ 1#1 ++ code

/-- R19: a data word as the transmitter builds it, bit 9 making the count of ones odd. -/
def dataWord (b : Byte) : LinkWord :=
  let low : LinkWord := b.setWidth 10
  if goodParity low then low else low ||| 0x200

/-- R10: the words of a frame's data bytes and its EOF, after its SOF. -/
def wordsAfterSof (bytes : List Byte) : List LinkWord := bytes.map dataWord ++ [controlWord false 0x5A]

/-! ### Headers and bodies -/

/-- R20: the kind byte. -/
def frameKindByte (bs : List Byte) : Nat := (byteAt bs 0).toNat
/-- R20: the destination byte. -/
def frameDest (bs : List Byte) : Byte := byteAt bs 1
/-- R20: the source byte. -/
def frameSource (bs : List Byte) : Byte := byteAt bs 2

/-- Spec/02 section 2.3: the flags of an AUDIO frame. -/
def audioPtPresent (bs : List Byte) : Bool := (byteAt bs 7).getLsbD 0
def audioRestart (bs : List Byte) : Bool := (byteAt bs 7).getLsbD 1
def audioStereo (bs : List Byte) : Bool := (byteAt bs 7).getLsbD 2
def audioWide (bs : List Byte) : Bool := (byteAt bs 7).getLsbD 3
def audioStream (bs : List Byte) : BitVec 16 := BitVec.ofNat 16 (fieldAt bs 3 2)
def audioSeq (bs : List Byte) : Seq := BitVec.ofNat 16 (fieldAt bs 5 2)
/-- The samples per channel: the count byte plus 1. -/
def audioN (bs : List Byte) : Nat := (byteAt bs 8).toNat + 1
def audioPt (bs : List Byte) : Time := timeAt bs 9
def audioPayload (bs : List Byte) : List Byte := bs.drop (if audioPtPresent bs then 15 else 9)

/-- Channels and bytes of one value (R21). -/
def audioChannels (bs : List Byte) : Nat := if audioStereo bs then 2 else 1
def audioWidth (bs : List Byte) : Nat := if audioWide bs then 3 else 2

/-- R21: the length an AUDIO frame must have. -/
def audioWellFormed (bs : List Byte) : Bool :=
  decide (9 ≤ bs.length) &&
    bs.length == 9 + (if audioPtPresent bs then 6 else 0) + audioN bs * audioChannels bs * audioWidth bs

/-- R109: one arriving value in stored form: 24-bit as it is, 16-bit times 256. -/
def storedValue (wide : Bool) (v : List Byte) : Sample :=
  if wide then BitVec.ofNat 24 (beNat v) else BitVec.ofNat 24 (beNat v * 256)

/-- R21, R109: the first `k` sample times of a payload as stored sample frames; mono goes to both values. -/
def storedPairs (stereo wide : Bool) : Nat → List Byte → List Pair
  | 0, _ => []
  | k + 1, bs =>
    let w := if wide then 3 else 2
    let l := storedValue wide (bs.take w)
    let r := if stereo then storedValue wide ((bs.drop w).take w) else l
    { left := l, right := r } :: storedPairs stereo wide k (bs.drop (if stereo then 2 * w else w))

/-- R22. -/
def soundingWellFormed (bs : List Byte) : Bool := bs.length == 11
/-- R22. -/
def returnWellFormed (bs : List Byte) : Bool := bs.length == 23

/-- R22: the group tag of a SOUNDING or RETURN. -/
def timingTag (bs : List Byte) : Byte := byteAt bs 3
def timingSeq (bs : List Byte) : BitVec 8 := byteAt bs 4
def timingT1 (bs : List Byte) : Time := timeAt bs 5
def timingT2 (bs : List Byte) : Time := timeAt bs 11
def timingT3 (bs : List Byte) : Time := timeAt bs 17

/-- R23: the items of a REQUEST body, exactly `k` of them ending exactly at the last byte. -/
def parseItems : Nat → List Byte → Option (List Item)
  | 0, [] => some []
  | 0, _ :: _ => none
  | k + 1, bs =>
    match bs with
    | code :: len :: rest =>
      if len.toNat ≤ rest.length then
        (parseItems k (rest.drop len.toNat)).map
          (fun items => { code := code, operands := rest.take len.toNat } :: items)
      else none
    | _ => none

/-- R23: the items of a REQUEST frame; none when the frame is malformed. -/
def requestItems (bs : List Byte) : Option (List Item) :=
  match bs[3]? with
  | none => none
  | some c => if 1 ≤ c.toNat ∧ c.toNat ≤ 16 then parseItems c.toNat (bs.drop 4) else none

/-- R28 step 6: the body passes its kind's check. -/
def bodyWellFormed (bs : List Byte) : Bool :=
  match frameKindByte bs with
  | 1 => audioWellFormed bs
  | 2 => soundingWellFormed bs
  | 3 => returnWellFormed bs
  | 4 => (requestItems bs).isSome
  | _ => true

/-! ### Frames the part builds (R25, R26) -/

/-- R55: a SOUNDING, its t1 field 0 until departure. -/
def buildSounding (leader own tag : Byte) (seq : BitVec 8) : List Byte :=
  [2, leader, own, tag, seq] ++ beBytes 6 0

/-- R60: a RETURN answering a sounding, its t3 field 0 until departure. -/
def buildReturn (own : Byte) (sounding : List Byte) (t2 : Time) : List Byte :=
  [3, frameSource sounding, own, timingTag sounding, timingSeq sounding] ++ (sounding.drop 5).take 6
    ++ beBytes 6 t2.toNat ++ beBytes 6 0

/-- R26: the flags byte of a stamped AUDIO frame. -/
def stampedFlags (restart stereo wide : Bool) : Byte :=
  1#8 ||| (if restart then 2#8 else 0#8) ||| (if stereo then 4#8 else 0#8) ||| (if wide then 8#8 else 0#8)

/-- R26, R99: the stamped copy of an arriving AUDIO frame. -/
def buildAudio (own : Byte) (arrived : List Byte) (seq : Seq) (pt : Time) (restart : Bool) : List Byte :=
  [1, 15, own] ++ (arrived.drop 3).take 2 ++ beBytes 2 seq.toNat
    ++ [stampedFlags restart (audioStereo arrived) (audioWide arrived), byteAt arrived 8]
    ++ beBytes 6 pt.toNat ++ audioPayload arrived

/-- The code of a status (spec/02 section 2.5). -/
def Status.code : Status → Byte
  | .done => 0 | .refusedState => 1 | .refusedIndex => 2 | .refusedSpace => 3 | .refusedInUse => 4
  | .unknownRequest => 5 | .malformedRequest => 6 | .notRun => 7

/-- R24: a result of a REPLY. -/
def resultBytes (r : ItemResult) : List Byte :=
  [r.code, r.status.code] ++ beBytes 2 r.data.length ++ r.data

/-- R24, R25, R181: the REPLY with these results. -/
def buildReply (dest own : Byte) (results : List ItemResult) : List Byte :=
  [5, dest, own, BitVec.ofNat 8 results.length] ++ results.flatMap resultBytes

end Sys2Proof.Machine
end

