-- ==== Sys2Proof/Machine/Operands.lean ====
section
/-! DEFINITION. The operands of the management requests (spec/11 section 11.2), their enumerations (R183), and the clamping
of GROUP-SET (R45), ROUTE-ARM (R91), SLOT-PEEK (R125) and PAGE-RUNS (R126). -/

namespace Sys2Proof.Machine

/-- The requests of the code table of spec/02 section 2.5. -/
inductive Request where
  | identify | status | conditionsClear | conditionsMask | timebaseSelect | groupSet | groupClear | groupSound
  | groupMeasure | routeArm | routeDisarm | routeCounts | laneBind | laneUnbind | laneGain | senseAction | slotPeek
  | pageRuns | deviceReset
deriving DecidableEq, Repr

/-- Request codes (spec/02 section 2.5). -/
def Request.code : Request → Byte
  | .identify => 0x01 | .status => 0x02 | .conditionsClear => 0x03 | .conditionsMask => 0x04
  | .timebaseSelect => 0x08 | .groupSet => 0x10 | .groupClear => 0x11 | .groupSound => 0x12
  | .groupMeasure => 0x13 | .routeArm => 0x20 | .routeDisarm => 0x21 | .routeCounts => 0x22
  | .laneBind => 0x30 | .laneUnbind => 0x31 | .laneGain => 0x32 | .senseAction => 0x38
  | .slotPeek => 0x40 | .pageRuns => 0x41 | .deviceReset => 0x7F

/-- Operand lengths (spec/11 section 11.2). -/
def Request.operandLength : Request → Nat
  | .identify => 0 | .status => 0 | .conditionsClear => 4 | .conditionsMask => 4 | .timebaseSelect => 1
  | .groupSet => 20 | .groupClear => 1 | .groupSound => 1 | .groupMeasure => 1 | .routeArm => 13
  | .routeDisarm => 1 | .routeCounts => 2 | .laneBind => 9 | .laneUnbind => 1 | .laneGain => 3
  | .senseAction => 2 | .slotPeek => 3 | .pageRuns => 3 | .deviceReset => 0

/-- R180: the largest data length of a request's result. -/
def Request.maxData : Request → Nat
  | .identify => 8 | .status => 207 | .groupMeasure => 16 | .routeArm => 9 | .routeCounts => 16
  | .slotPeek => 249 | .pageRuns => 321
  | .conditionsClear => 0 | .conditionsMask => 0 | .timebaseSelect => 0 | .groupSet => 0 | .groupClear => 0
  | .groupSound => 0 | .routeDisarm => 0 | .laneBind => 0 | .laneUnbind => 0 | .laneGain => 0
  | .senseAction => 0 | .deviceReset => 0

/-- The requests of the code table. -/
def allRequests : List Request :=
  [.identify, .status, .conditionsClear, .conditionsMask, .timebaseSelect, .groupSet, .groupClear, .groupSound,
   .groupMeasure, .routeArm, .routeDisarm, .routeCounts, .laneBind, .laneUnbind, .laneGain, .senseAction, .slotPeek,
   .pageRuns, .deviceReset]

/-- R180, test 1: the code names a request. -/
def knownCode (c : Byte) : Bool := allRequests.any (fun q => q.code == c)

/-! ### Indexes and enumerations (R180 test 4, R183) -/

def slotOf (b : Byte) : Option SlotId := if h : b.toNat < 4 then some ⟨b.toNat, h⟩ else none
def laneOf (b : Byte) : Option LaneId := if h : b.toNat < 4 then some ⟨b.toNat, h⟩ else none
def routeOf (b : Byte) : Option RouteId := if h : b.toNat < 8 then some ⟨b.toNat, h⟩ else none

def roleOf (b : Byte) : Option Role :=
  if b = 0 then some .leader else if b = 1 then some .follower else none
def triggerOf (b : Byte) : Option TriggerMode :=
  if b = 0 then some .off else if b = 1 then some .once else if b = 2 then some .stream
  else if b = 3 then some .tick else none
def routeModeOf (b : Byte) : Option RouteMode :=
  if b = 0 then some .sink else if b = 1 then some .source else none
def concealOf (b : Byte) : Option ConcealMode :=
  if b = 0 then some .silence else if b = 1 then some .repeat else none
def planOf (b : Byte) : Option Plan :=
  if b = 0 then some .stereo else if b = 1 then some .left else if b = 2 then some .right
  else if b = 3 then some .mix else none
def ampOf (b : Byte) : Option AmpMode :=
  if b = 0 then some .off else if b = 1 then some .on else if b = 2 then some .auto else none
def senseActionOf (b : Byte) : Option SenseAction :=
  if b = 0 then some .none else if b = 1 then some .muteAll else none

def roleCode : Option Role → Byte
  | some .leader => 0 | some .follower => 1 | none => 0xFF
def groupStateCode : GroupState → Byte
  | .idle => 0 | .leading => 1 | .acquire => 2 | .track => 3 | .locked => 4 | .holdover => 5
def routeStateCode : RouteState → Byte
  | .free => 0 | .armed => 1 | .live => 2 | .draining => 3
def laneStateCode : LaneState → Byte
  | .stop => 0 | .wait => 1 | .prime => 2 | .play => 3 | .rampdown => 4
def timebaseStateCode : TimebaseState → Byte
  | .xo => 0 | .pending => 1 | .refin => 2
def routeModeCode : RouteMode → Byte
  | .sink => 0 | .source => 1
def routeCode : Option RouteId → Byte
  | some r => BitVec.ofNat 8 r.val | none => 0xFF

/-- R192: a condition set or mask in a 4-byte operand; bits 26 to 31 are ignored. -/
def conditionOperand (ops : List Byte) : BitVec 32 := BitVec.ofNat 32 (fieldAt ops 0 4) &&& 0x03FFFFFF

/-! ### GROUP-SET (R45) -/

/-- R45: the operands that are checked. -/
structure GroupSetHead where
  slot : SlotId
  tag : Byte
  role : Role
deriving DecidableEq, Repr

/-- R45: the first two checks, slot number, then tag, role and trigger mode; none is REFUSED_INDEX. -/
def groupSetHead (ops : List Byte) : Option GroupSetHead :=
  match slotOf (byteAt ops 0), roleOf (byteAt ops 2), triggerOf (byteAt ops 4) with
  | some i, some role, some _ =>
    if byteAt ops 1 = 0 then none else some { slot := i, tag := byteAt ops 1, role := role }
  | _, _, _ => none

/-- R45: the configuration fields as clamped. -/
def groupSetConfig (ops : List Byte) : SlotConfig :=
  { leader := BitVec.ofNat 8 (clampNat 0 14 (fieldAt ops 3 1))
    mode := (triggerOf (byteAt ops 4)).getD .off
    tickBit := clampNat 16 27 (fieldAt ops 5 1)
    timeout := clampNat (2 ^ 14) (2 ^ 24) (fieldAt ops 6 4)
    filterN := clampNat 1 8 (fieldAt ops 10 1)
    gate := fieldAt ops 11 2
    response := clampNat 0 4 (fieldAt ops 13 1)
    window := fieldAt ops 14 2
    lockCount := clampNat 1 15 (fieldAt ops 16 1)
    unlockCount := clampNat 1 15 (fieldAt ops 17 1)
    holdoverEnter := clampNat 1 15 (fieldAt ops 18 1)
    holdoverLimit := clampNat 16 255 (fieldAt ops 19 1) }

/-! ### ROUTE-ARM (R90, R91) -/

/-- R91: the depth that an operand gives. -/
def depthOf (v : Nat) : Nat := if v ≤ 8 then 8 else if v ≤ 16 then 16 else if v ≤ 32 then 32 else 64

/-- R90: the first two checks; none is REFUSED_INDEX. The configuration is clamped under R91, its first page not yet set. -/
def routeArmOperands (ops : List Byte) : Option (RouteId × RouteConfig) :=
  match routeOf (byteAt ops 0), slotOf (byteAt ops 3), routeModeOf (byteAt ops 4), concealOf (byteAt ops 7) with
  | some r, some i, some mode, some conceal =>
    let d := depthOf (fieldAt ops 5 1)
    some (r,
      { stream := BitVec.ofNat 16 (fieldAt ops 1 2)
        slot := i
        mode := mode
        depth := d
        slotPages := clampNat 1 8 (fieldAt ops 6 1)
        firstPage := 0
        concealMode := conceal
        concealLimit := min (clampNat 1 8 (fieldAt ops 8 1)) (d / 2)
        lead := if mode = .source then some (clampNat 4096 8388608 (fieldAt ops 9 4)) else none })
  | _, _, _, _ => none

/-! ### LANE-BIND and LANE-GAIN (R189) -/

/-- R189: the index checks of LANE-BIND and the settings it carries; none is REFUSED_INDEX. -/
def laneBindOperands (ops : List Byte) : Option (LaneId × RouteId × Settings) :=
  let carried := byteAt ops 2
  match laneOf (byteAt ops 0), routeOf (byteAt ops 1) with
  | some i, some r =>
    if (carried.getLsbD 0 && (planOf (byteAt ops 3)).isNone) || (carried.getLsbD 3 && (ampOf (byteAt ops 8)).isNone)
    then none
    else some (i, r,
      { route := some r
        plan := if carried.getLsbD 0 then planOf (byteAt ops 3) else none
        gain := if carried.getLsbD 1 then some (fieldAt ops 4 2) else none
        delay := if carried.getLsbD 2 then some (fieldAt ops 6 2) else none
        amp := if carried.getLsbD 3 then ampOf (byteAt ops 8) else none })
  | _, _ => none

/-- R189: the index check of LANE-GAIN and what it carries. -/
def laneGainOperands (ops : List Byte) : Option (LaneId × Settings) :=
  (laneOf (byteAt ops 0)).map (fun i =>
    (i, { route := none, plan := none, gain := some (fieldAt ops 1 2), delay := none, amp := none }))

/-! ### SLOT-PEEK and PAGE-RUNS (R125, R126) -/

/-- R125: the first index and count as clamped for a depth. -/
def peekRange (depth first count : Nat) : Nat × Nat :=
  let f := clampNat 0 (depth - 1) first
  (f, min (clampNat 1 16 count) (depth - f))

/-- R126: the first page and count as clamped. -/
def pageRange (first count : Nat) : Nat × Nat :=
  let f := clampNat 0 (Config.pages - 1) first
  (f, min (clampNat 1 64 count) (Config.pages - f))

end Sys2Proof.Machine
end

