-- ==== Sys2Proof/Machine/Flags.lean ====
section
/-! DEFINITION. The condition set, its mask and ATTN (spec/11 section 11.3). -/

namespace Sys2Proof.Machine

/-- The conditions of spec/11 section 11.3. -/
inductive Condition where
  | linkParity | linkCode | frameAborted | frameMalformed | ingressOverrun | mgmtDiscarded | mgmtOverrun
  | streamUnknown | frameLate | frameAhead | frameOversize | returnDropped | forwardDropped | restamped
  | lockGained | lockLost | holdoverEntered | leaderLost | measureReady | concealed | starved | realigned
  | refinActive | refinLost | sense0 | sense1
deriving DecidableEq, Repr

/-- The bit of a condition (spec/11 section 11.3). -/
def Condition.bit : Condition → Nat
  | .linkParity => 0 | .linkCode => 1 | .frameAborted => 2 | .frameMalformed => 3 | .ingressOverrun => 4
  | .mgmtDiscarded => 5 | .mgmtOverrun => 6 | .streamUnknown => 7 | .frameLate => 8 | .frameAhead => 9
  | .frameOversize => 10 | .returnDropped => 11 | .forwardDropped => 12 | .restamped => 13 | .lockGained => 14
  | .lockLost => 15 | .holdoverEntered => 16 | .leaderLost => 17 | .measureReady => 18 | .concealed => 19
  | .starved => 20 | .realigned => 21 | .refinActive => 22 | .refinLost => 23 | .sense0 => 24 | .sense1 => 25

/-- Spec/11 section 11.3: bits 0 to 25; bits 26 to 31 are ignored on input. -/
def conditionBits : BitVec 32 := 0x03FFFFFF

/-- The condition as a set of one. -/
def Condition.mask (c : Condition) : BitVec 32 := 1#32 <<< c.bit

/-- R192: the condition becomes present. -/
def State.raise (c : Condition) (s : State) : State :=
  { s with cond := { s.cond with present := s.cond.present ||| c.mask } }

/-- R192: the condition is present. -/
def State.has (c : Condition) (s : State) : Bool := s.cond.present.getLsbD c.bit

/-- R186: the named conditions become absent. -/
def State.clearConditions (named : BitVec 32) (s : State) : State :=
  { s with cond := { s.cond with present := s.cond.present &&& ~~~ named } }

/-- R187: the mask is replaced. -/
def State.setMask (named : BitVec 32) (s : State) : State :=
  { s with cond := { s.cond with mask := named } }

/-- R192: ATTN is asserted exactly while a condition outside the mask is present. -/
def State.attn (s : State) : Bool := s.cond.present &&& ~~~ s.cond.mask != 0

/-- R175: the condition of a sense input. -/
def senseCondition (i : InputId) : Condition := if i = 0 then .sense0 else .sense1

end Sys2Proof.Machine
end

