-- ==== Sys2Proof/Machine/Memory.lean ====
section
/-! DEFINITION. The jitter store's memory: 1,024 pages of 256 bytes (R108), as a list of (address, byte) with addresses
strictly rising, every address below 262,144, and no entry equal to what an unlisted address reads as. Byte address
page × 256 + offset. One reading of a byte, one writing of a run of bytes; sample frames are built from them here, once. -/

namespace Sys2Proof.Machine

/-- R108: the bytes of the store memory. -/
def memBytes : Nat := Config.pages * Config.pageBytes

/-- The cells' addresses rise strictly from at least `lo`, stay below the memory's size, and no cell is redundant. -/
def cellsFrom : Nat → List Host.Cell → Bool
  | _, [] => true
  | lo, (a, b) :: rest => decide (lo ≤ a) && decide (a < memBytes) && (b != Config.unlistedByte) && cellsFrom (a + 1) rest

/-- The memory is in its one canonical form. -/
def Memory.wf (m : List Host.Cell) : Bool := cellsFrom 0 m

/-- The byte at an address. -/
def Memory.readByte : List Host.Cell → Nat → Byte
  | [], _ => Config.unlistedByte
  | (a, b) :: rest, x => if a = x then b else Memory.readByte rest x

/-- The cells that a run of bytes from an address needs: none for a byte that reads so unlisted, none past the memory. -/
def cellsOf : Nat → List Byte → List Host.Cell
  | _, [] => []
  | a, b :: rest =>
    if a < memBytes ∧ b ≠ Config.unlistedByte then (a, b) :: cellsOf (a + 1) rest else cellsOf (a + 1) rest

/-- A run of bytes written from an address, keeping the canonical form. -/
def Memory.write (m : List Host.Cell) (base : Nat) (bytes : List Byte) : List Host.Cell :=
  m.filter (fun c => decide (c.1 < base)) ++ cellsOf base bytes
    ++ m.filter (fun c => decide (base + bytes.length ≤ c.1))

/-- R109: a stored sample frame as eight bytes. DESIGN CHOICE (log entry 8): left value most significant byte first in
bytes 0 to 2, right value in bytes 4 to 6, bytes 3 and 7 zero. -/
def storedBytes (p : Pair) : List Byte :=
  beBytes 3 p.left.toNat ++ [0] ++ beBytes 3 p.right.toNat ++ [0]

/-- R108: the first byte of a stored sample frame, its page and position given. Pages are numbered 0 to 1,023 (the page map's
law R110 keeps every entry inside); the remainder only makes the function total. -/
def sampleAddress (page position : Nat) : Nat :=
  (page % Config.pages) * Config.pageBytes + (position % Config.pageSamples) * Config.sampleBytes

/-- R109: the stored sample frame at an address. -/
def readStored (m : List Host.Cell) (a : Nat) : Pair :=
  let byte := fun k => Memory.readByte m (a + k)
  { left := byte 0 ++ byte 1 ++ byte 2, right := byte 4 ++ byte 5 ++ byte 6 }

end Sys2Proof.Machine
end

