-- ==== Sys2Proof/Machine/Ops.lean ====
section
/-! DEFINITION. The named accessors and updates of the state that every block uses: the moment of a command, slots, routes,
lanes and sense inputs by number, and release of the oldest ingress entry. -/

namespace Sys2Proof.Machine

/-- R33: the counter has counted on to the value `now` by the command's moment. A value is taken once, so the marks of an
output instant and a tick already taken hold only while the value stands (R34, R35). -/
def State.clockTo (now : Time) (s : State) : State :=
  if now = s.time.lmc then s
  else { s with time := { s.time with lmc := now, instantTaken := false, tickTaken := false } }

def State.slot (s : State) (i : SlotId) : GroupSlot := s.slots[i]
def State.route (s : State) (r : RouteId) : Route := s.routes[r]
def State.lane (s : State) (i : LaneId) : Lane := s.lanes[i]
def State.input (s : State) (i : InputId) : SenseInput := s.sense[i]

def State.setSlot (i : SlotId) (g : GroupSlot) (s : State) : State :=
  { s with slots := s.slots.set i.val g i.isLt }
def State.setRoute (r : RouteId) (t : Route) (s : State) : State :=
  { s with routes := s.routes.set r.val t r.isLt }
def State.setLane (i : LaneId) (l : Lane) (s : State) : State :=
  { s with lanes := s.lanes.set i.val l i.isLt }
def State.setInput (i : InputId) (x : SenseInput) (s : State) : State :=
  { s with sense := s.sense.set i.val x i.isLt }

def State.modSlot (i : SlotId) (f : GroupSlot → GroupSlot) (s : State) : State := s.setSlot i (f (s.slot i))
def State.modRoute (r : RouteId) (f : Route → Route) (s : State) : State := s.setRoute r (f (s.route r))
def State.modLane (i : LaneId) (f : Lane → Lane) (s : State) : State := s.setLane i (f (s.lane i))

/-- R7: the owner has finished; the oldest ingress entry is released and the dispatcher's hand is empty (R27). -/
def State.releaseHand (s : State) : State :=
  { s with rx := { s.rx with ingress := s.rx.ingress.tail, hand := none } }

/-- A route counter raised by one (R100). -/
def State.bump (r : RouteId) (f : RouteCounters → RouteCounters) (s : State) : State :=
  s.modRoute r (fun t => { t with counters := f t.counters })

/-- R89, R29: the route is ARMED or LIVE. -/
def Route.taking (t : Route) : Bool := t.state == .armed || t.state == .live

/-- R115: the lane is a consumer of its route. -/
def Lane.consuming (l : Lane) : Bool := l.state == .prime || l.state == .play || l.state == .rampdown

/-- R115: the hold sequence: the repeat source while present, else the current frame's sequence. -/
def Lane.hold (l : Lane) : Option Seq :=
  match l.repeatSrc with
  | some q => some q
  | none => l.current.map (·.seq)

/-- R50, R45: the slot is in use. -/
def GroupSlot.inUse (g : GroupSlot) : Bool := g.tag != 0

/-- R176: the sense mute. -/
def State.muted (s : State) : Bool := (s.input 0).latch || (s.input 1).latch

/-- The configuration of the route the lane is bound to. -/
def State.laneRoute (s : State) (i : LaneId) : Option (RouteId × RouteConfig) :=
  match (s.lane i).route with
  | none => none
  | some r => (s.route r).config.map (fun c => (r, c))

end Sys2Proof.Machine
end

