-- ==== Sys2Proof/Machine/Engine.lean ====
section
/-! DEFINITION. The management engine's list of items: how an item ends, how a list ends, the REPLY (R179, R181), and the
judging of an item (R180). -/

namespace Sys2Proof.Machine

/-- The frame in hand: the oldest of the queue (R178). -/
def State.frameInHand (s : State) : Option MgmtFrame := s.mgmt.queue.head?

/-- R11, R181: the reply is offered to the REPLY class. -/
def State.offerReply (frame : MgmtFrame) (results : List ItemResult) (s : State) : State :=
  if s.tx.rep.isEmpty then
    { s with tx := { s.tx with rep := [buildReply (frameSource frame.bytes) s.pins.linkAddress results] } }
  else s

/-- R181: the list has ended with these results: an addressed frame is answered, the frame's place is freed. -/
def State.endExecution (results : List ItemResult) (s : State) : State :=
  let s' := match s.frameInHand with
    | some f => if f.addressed then s.offerReply f results else s
    | none => s
  { s' with mgmt := { queue := s.mgmt.queue.tail, phase := .idle, todo := [], results := [] } }

/-- R24: data stands in a DONE result only. -/
def itemResult (code : Byte) (st : Status) (data : List Byte) : ItemResult :=
  { code := code, status := st, data := if st = .done then data else [] }

/-- R179: a later item that is not reached. -/
def notRunResult (i : Item) : ItemResult := itemResult i.code .notRun []

/-- R179: the item in execution ends with a status. DONE goes on to the next item; any other status stops the list. -/
def State.finishItem (st : Status) (data : List Byte) (s : State) : State :=
  match s.mgmt.todo with
  | [] => s
  | item :: rest =>
    let results := s.mgmt.results ++ [itemResult item.code st data]
    if st = .done ∧ rest ≠ [] then
      { s with mgmt := { s.mgmt with phase := .running, todo := rest, results := results } }
    else s.endExecution (results ++ rest.map notRunResult)

/-- R180, test 3: the bytes of the reply as built so far. -/
def State.replyLength (s : State) : Nat :=
  4 + (s.mgmt.results.map (fun r => 4 + r.data.length)).sum

/-- R180, test 3: the reply would still fit; a broadcast frame skips the test. -/
def State.replyFits (q : Request) (s : State) : Bool :=
  match s.frameInHand with
  | some f =>
    !f.addressed || decide (s.replyLength + 4 + q.maxData + 4 * (s.mgmt.todo.length - 1) ≤ Config.maxFrameBytes)
  | none => true

/-- R180: the item at the head of the list, if the engine is executing one that names this request, is judged: its length,
then the reply's room, then the request's own checks and effect, `body`, on its operands. -/
def State.runItem (q : Request) (body : List Byte → State → State) (s : State) : State :=
  match s.mgmt.phase, s.mgmt.todo with
  | .running, item :: _ =>
    if item.code = q.code then
      if item.operands.length ≠ q.operandLength then s.finishItem .malformedRequest []
      else if s.replyFits q then body item.operands s
      else s.finishItem .refusedSpace []
    else s
  | _, _ => s

/-- R178: the engine takes the oldest frame of its queue once its copy has ended: a broadcast frame at once, an addressed one
when the REPLY class is empty, waiting in REPLY_WAIT until then. -/
def State.beginFrame (s : State) : State :=
  match s.mgmt.phase, s.mgmt.queue with
  | .idle, f :: _ | .replyWait, f :: _ =>
    if !f.copied then s
    else if !f.addressed || s.tx.rep.isEmpty then
      { s with mgmt := { s.mgmt with phase := .running, todo := (requestItems f.bytes).getD [], results := [] } }
    else { s with mgmt := { s.mgmt with phase := .replyWait } }
  | _, _ => s

end Sys2Proof.Machine
end

