-- ==== Sys2Proof/Machine/Store.lean ====
section
/-! DEFINITION. The jitter store (spec/07): the page map, slot directories, the release point, the arbiter and placements. -/

namespace Sys2Proof.Machine

/-! ### Pages (R108, R110, R111) -/

/-- R108: the page, from the start of the store, of sample `i` of the entry at an index. -/
def entryPage (c : RouteConfig) (index i : Nat) : Nat := c.firstPage + index * c.slotPages + i / Config.pageSamples

/-- R108: the index at which a sequence stands. -/
def dirIndex (c : RouteConfig) (q : Seq) : Nat := q.toNat % c.depth

/-- R108: the first byte of sample `i` of the frame with this sequence. -/
def frameSampleAddress (c : RouteConfig) (q : Seq) (i : Nat) : Nat :=
  sampleAddress (entryPage c (dirIndex c q) i) i

/-- R119: pages that a frame of n samples fills. -/
def framePages (n : Nat) : Nat := (n + 31) / 32

/-- R111: the lowest page with `len` free pages from it on; `at` is the page now looked at, `run` the free pages
directly before it. -/
def firstFit (len : Nat) : List (Option RouteId) → Nat → Nat → Option Nat
  | [], _, _ => none
  | o :: rest, at', run =>
    if o.isNone then
      if run + 1 = len then some (at' + 1 - len) else firstFit len rest (at' + 1) (run + 1)
    else firstFit len rest (at' + 1) 0

/-- R110: pages from `first` on take an owner. -/
def State.ownPages (first len : Nat) (o : Option RouteId) (s : State) : State :=
  { s with store := { s.store with pages := fillRun s.store.pages first len o } }

/-- R126: the runs of a stretch of the page map: first page, length, owner. -/
def pageRunsOf : List (Option RouteId) → Nat → List (Nat × Nat × Option RouteId)
  | [], _ => []
  | o :: rest, p =>
    match pageRunsOf rest (p + 1) with
    | (first, len, o') :: more => if o' = o then (p, len + 1, o) :: more else (p, 1, o) :: (first, len, o') :: more
    | [] => [(p, 1, o)]

/-! ### Slot directory and release point (R113 to R115) -/

/-- The entry at the index of a sequence. -/
def Route.entryFor (t : Route) (c : RouteConfig) (q : Seq) : DirEntry := t.dir.getD (dirIndex c q) .invalid

/-- R115, R118: a VALID entry that the release point has passed becomes INVALID. -/
def passedBy (rp : Seq) : DirEntry → DirEntry
  | .valid f => if seqDist rp f.seq < 0 then .invalid else .valid f
  | e => e

/-- The release point moves to `rp`; entries passed become INVALID. -/
def Route.moveRelease (t : Route) (rp : Seq) : Route :=
  { t with release := some rp, dir := t.dir.map (passedBy rp) }

/-- R115: the hold sequences of the route's consumers, in lane order. -/
def State.holds (r : RouteId) (s : State) : List Seq :=
  allLanes.filterMap (fun i => if (s.lane i).route = some r ∧ (s.lane i).consuming then (s.lane i).hold else none)

/-- R117: some lane consumes the route. -/
def State.hasConsumer (r : RouteId) (s : State) : Bool :=
  allLanes.any (fun i => (s.lane i).route == some r && (s.lane i).consuming)

/-- R115: the hold at the smallest signed distance from the release point. -/
def earliestHold (rp : Seq) : List Seq → Option Seq
  | [] => none
  | q :: rest =>
    match earliestHold rp rest with
    | none => some q
    | some m => if seqDist rp q ≤ seqDist rp m then some q else some m

/-- R115: the release point follows the earliest hold. -/
def State.recompute (r : RouteId) (s : State) : State :=
  match (s.route r).release with
  | none => s
  | some rp =>
    match earliestHold rp (s.holds r) with
    | none => s
    | some q => if 0 < seqDist rp q then s.modRoute r (fun t => t.moveRelease q) else s

/-! ### The arbiter (R122) -/

/-- The first lane, in rank order, with a read waiting. -/
def firstReader (reads : Vector (List Nat) 4) : List LaneId → Option (LaneId × Nat × List Nat)
  | [] => none
  | i :: rest =>
    match reads[i] with
    | p :: more => some (i, p, more)
    | [] => firstReader reads rest

/-- R119: the placement has a page still to write. -/
def Placement.waiting (p : Placement) : Bool := !p.abandoned && decide (p.written < framePages p.frame.n)

/-- R119: the write burst of a placement's next page. -/
def Placement.nextBurst (p : Placement) : Burst :=
  .write (p.base + p.written * Config.pageBytes) ((p.data.drop (p.written * Config.pageBytes)).take Config.pageBytes)

/-- R122: when the memory is free, the waiting request of highest rank is granted: lanes 0 to 3, then the placement writer.
A waiting SLOT-PEEK is granted by its own event, SLOT_PEEK_GRANT (log entry 16). -/
def State.arbitrate (s : State) : State :=
  match s.store.burst with
  | some _ => s
  | none =>
    match firstReader s.store.reads allLanes with
    | some (i, p, more) =>
      { s with store := { s.store with burst := some (.laneRead i p), reads := s.store.reads.set i.val more i.isLt } }
    | none =>
      match s.store.placement with
      | some p => if p.waiting then { s with store := { s.store with burst := some p.nextBurst } } else s
      | none => s

/-- R122: SLOT-PEEK may be granted: the memory is free and nobody of higher rank waits. -/
def State.peekMayRun (s : State) : Bool :=
  s.store.burst.isNone && (firstReader s.store.reads allLanes).isNone
    && (match s.store.placement with | some p => !p.waiting | none => true)

/-! ### Placement (R117 to R121) -/

/-- R119: the entry becomes IN PLACEMENT, the writer asks for its pages, the route unit keeps the ingress entry. -/
def State.beginPlacement (r : RouteId) (c : RouteConfig) (f : StoredFrame) (data : List Byte) (s : State) : State :=
  let index := dirIndex c f.seq
  let p : Placement :=
    { route := r, index := index, frame := f, base := sampleAddress (entryPage c index 0) 0, data := data,
      written := 0, abandoned := false }
  let s := s.modRoute r (fun t => { t with dir := t.dir.set index (.inPlacement f.seq) })
  let s := { s with store := { s.store with placement := some p }, rx := { s.rx with hand := some .routeUnit } }
  s.arbitrate

/-- R117: the placement decision on a frame admitted to a LIVE route. -/
def State.decidePlacement (r : RouteId) (c : RouteConfig) (rp : Seq) (f : StoredFrame) (data : List Byte) (s : State) :
    State :=
  let d := seqDist rp f.seq
  if d < 0 then
    ((s.bump r (fun k => { k with late := countUp k.late })).raise .frameLate).releaseHand
  else if (c.depth : Int) ≤ d then
    if s.hasConsumer r then
      ((s.bump r (fun k => { k with ahead := countUp k.ahead })).raise .frameAhead).releaseHand
    else
      -- R118: a slide puts the frame newest in the window
      (s.modRoute r (fun t => t.moveRelease (f.seq - BitVec.ofNat 16 c.depth + 1))).beginPlacement r c f data
  else
    match (s.route r).entryFor c f.seq with
    | .valid g =>
      if g.seq = f.seq then (s.bump r (fun k => { k with duplicate := countUp k.duplicate })).releaseHand
      else s.beginPlacement r c f data
    | _ => s.beginPlacement r c f data

/-- The entry of a placement is set. -/
def State.settleEntry (p : Placement) (e : DirEntry) (s : State) : State :=
  s.modRoute p.route (fun t => { t with dir := t.dir.set p.index e })

/-- R104, R121: the abandonment takes effect: the entry INVALID, no counter, the ingress entry released. -/
def State.dropPlacement (p : Placement) (s : State) : State :=
  let s := s.settleEntry p .invalid
  ({ s with store := { s.store with placement := none } } : State).releaseHand

/-- R120: all writes have ended: VALID and counted accepted, or, if the release point has passed it, INVALID and late. -/
def State.completePlacement (s : State) : State :=
  match s.store.placement with
  | none => s
  | some p =>
    if p.abandoned ∨ p.written < framePages p.frame.n then s
    else
      let late := match (s.route p.route).release with
        | some rp => decide (seqDist rp p.frame.seq < 0)
        | none => true
      let s' :=
        if late then
          (((s.settleEntry p .invalid).bump p.route (fun k => { k with late := countUp k.late })).raise .frameLate)
        else (s.settleEntry p (.valid p.frame)).bump p.route (fun k => { k with accepted := countUp k.accepted })
      ({ s' with store := { s'.store with placement := none } } : State).releaseHand

end Sys2Proof.Machine
end

