-- ==== Sys2Proof/Machine/Lanes.lean ====
section
/-! DEFINITION. What moves a lane from outside its steps (spec/08 sections 8.1, 8.3, 8.5; spec/09 sections 9.5, 9.6): ramps,
bindings, staged changes, unbinding, group and sense causes; and the freeing of a route (R103). -/

namespace Sys2Proof.Machine

/-! ### Freeing a route (R103, R112, R125) -/

/-- R125: the report of SLOT-PEEK on a FREE route: the state FREE and no entries, absent fields 0 (R183). -/
def peekFreeReport : List Byte := [0, 0, 0, 0, 0, 0, 0, 0, 0]

/-- R125: a SLOT-PEEK waiting for its grant on the route is withdrawn and completes with DONE. -/
def State.withdrawPeek (r : RouteId) (s : State) : State :=
  match s.mgmt.phase with
  | .storeWait r' _ _ => if r' = r then s.finishItem .done peekFreeReport else s
  | _ => s

/-- R103, R112: the route becomes FREE: its pages are given back, its entries and configuration go, its counters stay. -/
def State.freeRoute (r : RouteId) (s : State) : State :=
  let s' := match (s.route r).config with
    | some c => s.ownPages c.firstPage (c.depth * c.slotPages) none
    | none => s
  (s'.modRoute r (fun t => { Route.unused with counters := t.counters })).withdrawPeek r

/-- R102, R103: some lane is bound to the route. -/
def State.hasLane (r : RouteId) (s : State) : Bool := allLanes.any (fun i => (s.lane i).route == some r)

/-- R104: a placement for the route is in flight. -/
def State.placing (r : RouteId) (s : State) : Bool :=
  match s.store.placement with
  | some p => p.route == r
  | none => false

/-- R103: a DRAINING route with no lane left, and with no placement still to be abandoned, becomes FREE. -/
def State.tryFree (r : RouteId) (s : State) : State :=
  if (s.route r).state = .draining ∧ s.hasLane r = false ∧ s.placing r = false then s.freeRoute r else s

/-! ### Lane records -/

/-- R173: the lane leaves PRIME, PLAY or RAMPDOWN; in AUTO its hold timer starts. -/
def Lane.startHold (now : Time) (l : Lane) : Lane :=
  if l.ampMode = .auto then { l with holdTimer := some (addTicks now Config.ampHold) } else l

/-- R135, R141: the fields that only a consumer holds become absent. -/
def Lane.clearPlay (l : Lane) : Lane :=
  { l with playhead := none, current := none, repeatSrc := none, concealedRun := 0, ramp := none }

/-- R140: the level at which a ramp-down begins: 1, or, during a ramp-in whose last sample had level k, 65 - k; 64 when none
has been handed on. `up m` holds the level of the next sample, so k is m - 1. -/
def Lane.downLevel (l : Lane) : Nat :=
  match l.ramp with
  | some (.up m) => min 64 (66 - m)
  | _ => 1

/-- R140: the lane enters RAMPDOWN with instant count 1. -/
def Lane.rampDown (dest : Destination) (l : Lane) : Lane :=
  { l with state := .rampdown, ramp := some (.down 1 l.downLevel dest) }

/-- R140: a further cause during a ramp-down: STOP replaces the destination, WAIT leaves it. -/
def Lane.redirect (dest : Destination) (l : Lane) : Lane :=
  match l.ramp, dest with
  | some (.down c m _), .stop => { l with ramp := some (.down c m .stop) }
  | _, _ => l

/-- R140: a cause from outside reaches a lane in PLAY or RAMPDOWN. -/
def Lane.cause (dest : Destination) (l : Lane) : Lane :=
  match l.state with
  | .play => l.rampDown dest
  | .rampdown => l.redirect dest
  | _ => l

/-- R129, R161: the settings carried are written. Writing the amp mode stops the hold timer (R172). -/
def Lane.applySettings (v : Settings) (l : Lane) : Lane :=
  { l with
    plan := v.plan.getD l.plan
    gain := v.gain.getD l.gain
    delay := v.delay.getD l.delay
    ampMode := v.amp.getD l.ampMode
    holdTimer := if v.amp.isSome then none else l.holdTimer }

/-! ### Lanes leaving PRIME (R135) -/

/-- R115, R135, R141: the lane takes a new record; the route it consumed recomputes its release point. -/
def State.leaveTo (i : LaneId) (l : Lane) (s : State) : State :=
  match (s.lane i).route with
  | some r => (s.setLane i l).recompute r
  | none => s.setLane i l

/-- R135: from PRIME straight to WAIT. -/
def State.primeToWait (i : LaneId) (s : State) : State :=
  s.leaveTo i { ((s.lane i).clearPlay.startHold s.time.lmc) with state := .wait }

/-- R135: from PRIME straight to STOP, unbound. -/
def State.primeToStop (i : LaneId) (s : State) : State :=
  s.leaveTo i { ((s.lane i).clearPlay.startHold s.time.lmc) with state := .stop, route := none }

/-- R84, R166: a cause with destination WAIT reaches a lane in any state. -/
def State.waitCause (i : LaneId) (s : State) : State :=
  if (s.lane i).state = .prime then s.primeToWait i else s.modLane i (Lane.cause .wait)

/-- R84: the slot has entered ACQUIRE; the lanes bound to its routes are signalled. The spec gives no order among the lanes,
on which the release point of a route with several consumers can depend (R115). DESIGN CHOICE (log entry 23): lane order,
each lane's leaving recomputed before the next lane is signalled. -/
def State.signalAcquire (g : SlotId) (s : State) : State :=
  allLanes.foldl (fun s i =>
    match s.laneRoute i with
    | some (_, c) => if c.slot = g then s.waitCause i else s
    | none => s) s

/-- R166: a sense mute is latched; every lane acts, in lane order. DESIGN CHOICE (log entry 23). -/
def State.muteLanes (s : State) : State := allLanes.foldl (fun s i => s.waitCause i) s

/-! ### Bindings (R129, R161, R164) -/

/-- R129: the lane is bound to a route and waits on it. -/
def Lane.bindTo (r : RouteId) (l : Lane) : Lane := { l with route := some r, state := .wait }

/-- R161: what a LANE-BIND or LANE-GAIN that passes its checks does, by the lane's state. In PRIME the settings are written, and
then a binding to another route takes the lane to WAIT. R172 stops the hold timer at the first and R173 starts it at the second
in AUTO, and no rule orders the two. DESIGN CHOICE (log entry 27): the settings first, so that the timer runs where the amp mode
is AUTO after them. -/
def State.applyBinding (i : LaneId) (v : Settings) (s : State) : State :=
  match (s.lane i).state with
  | .stop | .wait =>
    s.modLane i (fun l => match v.route with
      | some r => (l.applySettings v).bindTo r
      | none => l.applySettings v)
  | .prime =>
    let s' := s.modLane i (Lane.applySettings v)
    match v.route with
    | some r => if (s.lane i).route = some r then s' else (s'.primeToWait i).modLane i (Lane.bindTo r)
    | none => s'
  | .play | .rampdown => s.modLane i (fun l => { l with staged := some v })

/-- R164: LANE-UNBIND on a lane, by its state; a staged change is dropped. -/
def State.unbindLane (i : LaneId) (s : State) : State :=
  let s := s.modLane i (fun l => { l with staged := none })
  match (s.lane i).state with
  | .stop => s
  | .wait => s.modLane i (fun l => { l with state := .stop, route := none })
  | .prime => s.primeToStop i
  | .play | .rampdown => s.modLane i (Lane.cause .stop)

/-- R102: a lane of a route that enters DRAINING. -/
def State.drainLane (i : LaneId) (s : State) : State :=
  match (s.lane i).state with
  | .stop => s
  | .wait => s.modLane i (fun l => { l with state := .stop, route := none })
  | .prime => s.primeToStop i
  | .play | .rampdown => s.modLane i (Lane.cause .stop)

/-! ### The end of a ramp (R141, R163) -/

/-- R163: the route part of a staged change is judged where the ramp has ended. -/
def State.landRoute (i : LaneId) (r : RouteId) (s : State) : State :=
  if (s.route r).taking then s.modLane i (Lane.bindTo r) else s

/-- R163: the staged change lands after the ramp. -/
def State.landAtRampEnd (i : LaneId) (s : State) : State :=
  match (s.lane i).staged with
  | none => s
  | some v =>
    let s' := s.modLane i (fun l => { l.applySettings v with staged := none })
    match v.route with
    | some r => s'.landRoute i r
    | none => s'

/-- R141: the lane enters its destination, stops consuming, and its route may become FREE; then a staged change lands. -/
def State.endRamp (i : LaneId) (dest : Destination) (s : State) : State :=
  let l := (s.lane i).clearPlay.startHold s.time.lmc
  let s' := match dest with
    | .wait => s.leaveTo i { l with state := .wait }
    | .stop =>
      let s' := s.leaveTo i { l with state := .stop, route := none }
      match (s.lane i).route with
      | some r => s'.tryFree r
      | none => s'
  s'.landAtRampEnd i

/-- RAMP_END's act: due once the 64th step of a ramp-down has been made; otherwise nothing. -/
def State.rampEndAct (i : LaneId) (s : State) : State :=
  match (s.lane i).state, (s.lane i).ramp with
  | .rampdown, some (.down c _ dest) => if Config.rampLength < c then s.endRamp i dest else s
  | _, _ => s

/-- RAMP_IN_END's act: due once the sample at level 64 has been handed on; the ramp becomes absent (R139). -/
def State.rampInEndAct (i : LaneId) (s : State) : State :=
  match (s.lane i).ramp with
  | some (.up m) => if Config.rampLength < m then s.modLane i (fun l => { l with ramp := none }) else s
  | _ => s

/-! ### Sense inputs (R175, R176) -/

/-- SENSE_ACCEPT's act: due once the run count has reached 48. The accepted level changes; an activation raises the input's
condition and, under MUTE_ALL, sets its latch, which mutes the lanes when no latch was set before. -/
def State.senseAcceptAct (i : InputId) (s : State) : State :=
  let x := s.input i
  if x.run < Config.debounce then s
  else if x.accepted then s.setInput i { x with accepted := false, run := 0 }
  else
    let latched := x.latch || x.action == .muteAll
    let s' := (s.setInput i { x with accepted := true, run := 0, latch := latched }).raise (senseCondition i)
    if !s.muted && latched then s'.muteLanes else s'

/-- R175: the output stage samples a pin. -/
def SenseInput.sample (pin : Bool) (x : SenseInput) : SenseInput :=
  { x with pin := pin, run := if pin = x.accepted then 0 else x.run + 1 }

/-- R176, R186, R191: a latch is cleared. -/
def State.clearLatch (i : InputId) (s : State) : State := s.setInput i { s.input i with latch := false }

/-! ### Disarming (R102, R104) -/

/-- R104: a placement for the route is abandoned: at once, or, while its write burst is under way, when that burst ends. -/
def State.abandonFor (r : RouteId) (s : State) : State :=
  match s.store.placement with
  | some p =>
    if p.route = r then
      match s.store.burst with
      | some (.write _ _) => { s with store := { s.store with placement := some { p with abandoned := true } } }
      | _ => s.dropPlacement p
    else s
  | none => s

/-- R102: an ARMED or LIVE route enters DRAINING: its lanes act, in lane order (DESIGN CHOICE, log entry 23), its placement is
abandoned, and it goes on to FREE if nothing holds it. -/
def State.disarm (r : RouteId) (s : State) : State :=
  if (s.route r).taking then
    let s := s.modRoute r (fun t => { t with state := .draining })
    let s := allLanes.foldl (fun s i => if (s.lane i).route = some r then s.drainLane i else s) s
    (s.abandonFor r).tryFree r
  else s

/-! ### The end of a burst (R121, R122) -/

/-- R119, R121, R122: the burst under way ends. A write puts its bytes into the memory; an abandoned placement is dropped,
which may let its route become FREE (R104). Then the arbiter grants again. -/
def State.endBurst (s : State) : State :=
  match s.store.burst with
  | none => s
  | some (.write base bytes) =>
    let s := { s with store := { s.store with burst := none, mem := Memory.write s.store.mem base bytes } }
    let s := match s.store.placement with
      | some p =>
        if p.abandoned then (s.dropPlacement p).tryFree p.route
        else { s with store := { s.store with placement := some { p with written := p.written + 1 } } }
      | none => s
    s.arbitrate
  | some _ => ({ s with store := { s.store with burst := none } } : State).arbitrate

end Sys2Proof.Machine
end

