-- ==== Sys2Proof/Machine/Timeline.lean ====
section
/-! DEFINITION. The timeline map (spec/03 section 3.4): conversion, re-anchoring, the identity map. -/

namespace Sys2Proof.Machine

/-- R41: the correction term, the product divided by 2^24 with floor rounding. -/
def correction (delta trim : Int) : Int := delta * trim / 2 ^ 24

/-- R41: the group time of a local time. -/
def TimelineMap.convert (m : TimelineMap) (l : Time) : Time :=
  let delta := timeDist m.al l
  addTicks m.ag (delta + correction delta m.trim)

/-- R43: a new map anchored at `x`, stepped by `step`, with a new trim. -/
def TimelineMap.reanchor (m : TimelineMap) (x : Time) (step trim : Int) : TimelineMap :=
  { al := x, ag := addTicks (m.convert x) step, trim := trim }

/-- R44: the identity map at a local time. -/
def TimelineMap.identity (l : Time) : TimelineMap := { al := l, ag := l, trim := 0 }

/-- R71: the trim that an integrator gives. -/
def trimOf (i : Int) : Int := clampInt (-8192) 8192 (i / 256)

end Sys2Proof.Machine
end

