-- ==== Sys2Proof/Machine/Soundings.lean ====
section
/-! DEFINITION. Soundings and measurement (spec/04) and the lock machine's fall on lost soundings (R79, R81): due events, the
sounding record, the leader's answer, validation of returns, delay history, gate and filter. -/

namespace Sys2Proof.Machine

/-! ### Due events and the record (R52 to R56) -/

/-- R55: a record is made, QUEUED, and a SOUNDING offered to its class, which holds one entry for each slot (R11). -/
def State.makeSounding (i : SlotId) (s : State) : State :=
  let g := s.slot i
  match g.config with
  | none => s
  | some c =>
    let e : SoundingEntry :=
      { slot := i, seq := g.seqCounter, bytes := buildSounding c.leader s.pins.linkAddress g.tag g.seqCounter }
    let s := s.setSlot i { g with record := some (.queued g.seqCounter), seqCounter := g.seqCounter + 1 }
    if s.tx.snd.any (fun e => e.slot == i) then s
    else { s with tx := { s.tx with snd := s.tx.snd ++ [e] } }

/-- R79, R81: what an increase of the lost count to `lost` calls for, in a state. -/
def lossEventFor (st : GroupState) (c : SlotConfig) (lost : Nat) : Option LossEvent :=
  match st with
  | .track | .locked => if c.holdoverEnter ≤ lost then some .holdover else none
  | .holdover => if c.holdoverLimit ≤ lost then some .leaderLost else none
  | _ => none

/-- R58: the lost count of a slot increases; the lock machine compares it at once. -/
def GroupSlot.lose (g : GroupSlot) : GroupSlot :=
  let lost := countUp g.lost
  { g with
    lost := lost
    lossDue := match g.config with
      | some c => lossEventFor g.state c lost
      | none => none }

/-- R55, R56: a due event of a follower slot, by the phase of its record. -/
def State.soundingDue (i : SlotId) (s : State) : State :=
  if (s.slot i).role ≠ some .follower then s
  else
    match (s.slot i).record with
    | none => s.makeSounding i
    | some (.queued _) => s
    | some (.outstanding _ _ _) => (s.modSlot i (fun g => { g with record := none }.lose)).makeSounding i

/-- R12: a queued SOUNDING of the slot is withdrawn. -/
def State.withdrawSounding (i : SlotId) (s : State) : State :=
  { s with tx := { s.tx with snd := s.tx.snd.filter (fun e => e.slot != i) } }

/-- R53: the spacing of STREAM soundings. -/
def streamSpacing : Int := 2 ^ 16

/-- R53: a sounding that departed at `t1` has ended; in STREAM mode the next is due at once or at t1 + 2^16. -/
def State.soundingEnded (i : SlotId) (t1 : Time) (s : State) : State :=
  match (s.slot i).config with
  | some c =>
    if c.mode = .stream then
      if 0 ≤ timeDist (addTicks t1 streamSpacing) s.time.lmc then s.soundingDue i
      else s.modSlot i (fun g => { g with streamDue := some (addTicks t1 streamSpacing) })
    else s
  | none => s

/-- R57: the counter takes the value of the deadline of an OUTSTANDING record. -/
def State.timeoutAct (i : SlotId) (s : State) : State :=
  match (s.slot i).record with
  | some (.outstanding _ t1 deadline) =>
    if deadline = s.time.lmc then (s.modSlot i (fun g => { g with record := none }.lose)).soundingEnded i t1 else s
  | _ => s

/-- R53: the counter takes the value of an armed STREAM due event. -/
def State.streamDueAct (i : SlotId) (s : State) : State :=
  if (s.slot i).streamDue = some s.time.lmc then
    (s.modSlot i (fun g => { g with streamDue := none })).soundingDue i
  else s

/-- R52: the slot's tick bit k rises at this counter value: the remainder on division by 2^(k+1) is 2^k. -/
def GroupSlot.tickRises (t : Time) (g : GroupSlot) : Bool :=
  match g.config with
  | some c => c.mode == .tick && t.toNat % 2 ^ (c.tickBit + 1) == 2 ^ c.tickBit
  | none => false

/-- R52: every follower slot in TICK mode whose bit rises is due, in the order given, the others after it. A slot met again is
then QUEUED, and a due event that finds it so does nothing (R56). -/
def State.tickAct (order : List SlotId) (s : State) : State :=
  if s.time.tickTaken then s
  else
    let s := { s with time := { s.time with tickTaken := true } }
    (order ++ allSlots).foldl (fun s i => if (s.slot i).tickRises s.time.lmc then s.soundingDue i else s) s

/-! ### Lost soundings and the lock machine (R79, R81, R82, R84) -/

/-- R82: a change of the group state sets both runs to 0. -/
def GroupSlot.enterState (st : GroupState) (g : GroupSlot) : GroupSlot :=
  { g with state := st, insideRun := 0, outsideRun := 0 }

/-- HOLDOVER_ENTERED's act (R79), due in a slot in TRACK or LOCKED whose lost count has reached holdover-enter. -/
def State.holdoverAct (i : SlotId) (s : State) : State :=
  if (s.slot i).lossDue = some .holdover ∧ ((s.slot i).state = .track ∨ (s.slot i).state = .locked) then
    (s.modSlot i (fun g => { g.enterState .holdover with lossDue := none })).raise .holdoverEntered
  else s

/-- LEADER_LOST's act (R81), due in a slot in HOLDOVER whose lost count has reached the limit: the map is removed, the slot
enters ACQUIRE, its lanes are signalled (R84). -/
def State.leaderLostAct (i : SlotId) (s : State) : State :=
  if (s.slot i).lossDue = some .leaderLost ∧ (s.slot i).state = .holdover then
    ((s.modSlot i (fun g => { g.enterState .acquire with lossDue := none, map := none })).raise .leaderLost).signalAcquire i
  else s

/-! ### The leader's answer (R60) -/

/-- R60: a SOUNDING handed to a LEADING slot is answered from its arrival stamp. -/
def State.answerSounding (i : SlotId) (stamp : Time) (bs : List Byte) (s : State) : State :=
  match (s.slot i).map with
  | none => s
  | some m =>
    if s.tx.ret.length < Config.returnEntries then
      let e : ReturnEntry :=
        { slot := i, tag := (s.slot i).tag, bytes := buildReturn s.pins.linkAddress bs (m.convert stamp) }
      ({ s with tx := { s.tx with ret := s.tx.ret ++ [e] } } : State).modSlot i
        (fun g => { g with answered := countUp g.answered })
    else s.raise .returnDropped

/-! ### Validation (R62) -/

/-- R62: the stamps of a valid return. -/
structure Stamps where
  t1 : Time
  t2 : Time
  t3 : Time
  t4 : Time
deriving DecidableEq, Repr

/-- R62: the residence q. -/
def Stamps.residence (x : Stamps) : Int := timeDist x.t2 x.t3
/-- R62: the round trip rt. -/
def Stamps.roundTrip (x : Stamps) : Int := timeDist x.t1 x.t4
/-- R63: the path delay p; a value below 0 is taken as 0. -/
def Stamps.path (x : Stamps) : Nat := (x.roundTrip - x.residence).toNat

/-- R62: the tests of a return against the slot; the stamps when it is valid. -/
def GroupSlot.validate (g : GroupSlot) (stamp : Time) (bs : List Byte) : Option Stamps :=
  match g.config, g.record with
  | some c, some (.outstanding seq t1 _) =>
    let x : Stamps := { t1 := t1, t2 := timingT2 bs, t3 := timingT3 bs, t4 := stamp }
    if frameSource bs = c.leader ∧ timingSeq bs = seq ∧ timingT1 bs = t1
        ∧ 0 ≤ x.residence ∧ x.residence < 2 ^ 20 ∧ 0 ≤ x.roundTrip
    then some x else none
  | _, _ => none

/-- R64: the error sample, in half-ticks. -/
def errorSample (m : TimelineMap) (x : Stamps) : Int :=
  timeDist (m.convert x.t1) x.t2 + timeDist (m.convert x.t4) x.t3

/-! ### Filter, history, gate (R63, R65 to R67) -/

/-- R66: the filter is restarted. -/
def GroupSlot.restartFilter (g : GroupSlot) : GroupSlot :=
  { g with errSum := 0, pathSum := 0, accepted := 0, rejected := 0 }

/-- R63: a valid return completes the sounding; in HOLDOVER it takes the slot to TRACK and restarts the filter. -/
def GroupSlot.complete (g : GroupSlot) : GroupSlot :=
  let g := { g with record := none, lost := 0, lossDue := none }
  if g.state = .holdover then (g.enterState .track).restartFilter else g

/-- R65: the history with a path appended, at most eight, the oldest removed. -/
def pushHistory (h : List Nat) (p : Nat) : List Nat :=
  if Config.historyEntries < h.length + 1 then h.tail ++ [p] else h ++ [p]

/-- R65: the floor of a history to which `p` has just been appended. -/
def historyFloor (h : List Nat) (p : Nat) : Nat := h.foldl min p

/-- R75: the map that the first accepted sample in ACQUIRE builds. -/
def GroupSlot.buildMap (g : GroupSlot) (x : Stamps) : GroupSlot :=
  { (g.enterState .track).restartFilter with
    map := some { al := x.t4, ag := addTicks x.t3 (x.path / 2 : Nat), trim := trimOf g.integrator } }

/-- R67: a sample joins the filter; a block that it completes keeps t4 until its result is formed. -/
def GroupSlot.addSample (g : GroupSlot) (c : SlotConfig) (m : TimelineMap) (x : Stamps) : GroupSlot :=
  { g with
    errSum := g.errSum + errorSample m x
    pathSum := g.pathSum + x.path
    accepted := g.accepted + 1
    blockDone := if g.accepted + 1 = 2 ^ c.filterN then some x.t4 else none }

/-- R65, R66: the sample of a valid return goes through history and gate, then to the map or the filter. -/
def GroupSlot.takeSample (g : GroupSlot) (c : SlotConfig) (x : Stamps) : GroupSlot :=
  let h := pushHistory g.history x.path
  let g := { g with history := h }
  if historyFloor h x.path + c.gate < x.path then { g with rejected := countUp g.rejected }
  else
    match g.state, g.map with
    | .acquire, _ => g.buildMap x
    | .track, some m | .locked, some m => g.addSample c m x
    | _, _ => g

/-- R61 to R67: a RETURN handed to a follower slot. When it completes a filter block, the group timing unit keeps the frame in
hand until the block is made a result (R63); otherwise the entry is released. -/
def State.takeReturn (i : SlotId) (stamp : Time) (bs : List Byte) (s : State) : State :=
  match (s.slot i).config, (s.slot i).validate stamp bs with
  | some c, some x =>
    let s := ((s.modSlot i GroupSlot.complete).soundingEnded i x.t1).modSlot i (fun g => g.takeSample c x)
    if (s.slot i).blockDone.isSome then { s with rx := { s.rx with hand := some (.timingUnit i) } }
    else s.releaseHand
  | _, _ => (s.modSlot i (fun g => { g with rejected := countUp g.rejected })).releaseHand

end Sys2Proof.Machine
end

