-- ==== Sys2Proof/Machine/Discipline.lean ====
section
/-! DEFINITION. The result of a filter block (R68), the discipline (R70 to R73), the gross test and the window test (R74 to
R78). -/

namespace Sys2Proof.Machine

/-- R68: E before saturation, from the error sum of a block of 2^n samples. -/
def meanError (n : Nat) (sum : Int) : Int :=
  if n ≤ 3 then sum * (2 ^ (3 - n) : Nat) else (sum + (2 ^ (n - 4) : Nat)) / (2 ^ (n - 3) : Nat)

/-- R68: the result of the block that the filter holds. -/
def GroupSlot.result (g : GroupSlot) (c : SlotConfig) : FilterResult :=
  { e := clampInt (-(2 ^ 27)) (2 ^ 27) (meanError c.filterN g.errSum)
    p := g.pathSum / 2 ^ c.filterN
    n := 2 ^ c.filterN
    rejected := g.rejected }

/-- R70: the phase shift a. -/
def phaseShift : Nat → Nat
  | 0 => 0 | 1 => 1 | 2 => 1 | 3 => 2 | _ => 3

/-- R70: the integral shift b. -/
def integralShift : Nat → Nat
  | 0 => 0 | 1 => 1 | 2 => 2 | 3 => 3 | _ => 4

/-- R71: the new integrator. -/
def integrate (response : Nat) (i e : Int) : Int :=
  clampInt (-(2 ^ 21)) (2 ^ 21) (i + e * 8 / (2 ^ integralShift response : Nat))

/-- R72: the phase step in ticks. -/
def phaseStep (response : Nat) (e : Int) : Int := e / (2 ^ (phaseShift response + 4) : Nat)

/-- R74: a result of 2^24 sixteenths or more is gross. -/
def isGross (e : Int) : Bool := decide (2 ^ 24 ≤ e.natAbs)

/-- R71 to R73: the integrator, trim and map after a result whose block completed at `t4`. -/
def GroupSlot.discipline (g : GroupSlot) (c : SlotConfig) (e : Int) (t4 : Time) : GroupSlot :=
  let i := integrate c.response g.integrator e
  { g with
    integrator := i
    map := g.map.map (fun m => m.reanchor t4 (phaseStep c.response e) (trimOf i)) }

/-- R76, R77: the result is inside the window. -/
def isInside (c : SlotConfig) (e : Int) : Bool := decide (e.natAbs ≤ c.window)

/-- R76, R77: the runs after a result. -/
def GroupSlot.countRun (g : GroupSlot) (inside : Bool) : GroupSlot :=
  if inside then { g with insideRun := countUp g.insideRun, outsideRun := 0 }
  else { g with outsideRun := countUp g.outsideRun, insideRun := 0 }

/-- R76, R77: the window test. -/
def State.windowTest (i : SlotId) (c : SlotConfig) (e : Int) (s : State) : State :=
  let s := s.modSlot i (fun g => g.countRun (isInside c e))
  let g := s.slot i
  if g.state = .track ∧ isInside c e ∧ c.lockCount ≤ g.insideRun then
    (s.modSlot i (GroupSlot.enterState .locked)).raise .lockGained
  else if g.state = .locked ∧ ¬ isInside c e ∧ c.unlockCount ≤ g.outsideRun then
    (s.modSlot i (GroupSlot.enterState .track)).raise .lockLost
  else s

/-- R78: a gross result takes the slot to ACQUIRE; its lanes are signalled (R84). -/
def State.grossFall (i : SlotId) (s : State) : State :=
  let s' := if (s.slot i).state = .locked then s.raise .lockLost else s
  (s'.modSlot i (fun g => { g.enterState .acquire with map := none })).signalAcquire i

/-- R68: the last result is written, the ready flag set, MEASURE_READY raised, the filter restarted. -/
def State.publishResult (i : SlotId) (r : FilterResult) (s : State) : State :=
  (s.modSlot i (fun g => { g.restartFilter with lastResult := some r, ready := true, blockDone := none })).raise
    .measureReady

/-- R74: what a result does, after it is published: the gross test, or the discipline and the window test. -/
def State.handleResult (i : SlotId) (c : SlotConfig) (e : Int) (t4 : Time) (s : State) : State :=
  if isGross e then s.grossFall i else (s.modSlot i (fun g => g.discipline c e t4)).windowTest i c e

/-- R63: the group timing unit's act on the return in hand has ended. -/
def State.releaseReturn (i : SlotId) (s : State) : State :=
  if s.rx.hand = some (.timingUnit i) then s.releaseHand else s

/-- FILTER_BLOCK_COMPLETE's act (R68, R74): due in a slot in TRACK or LOCKED once the filter count has reached N. The return
that completed the block is then released (R63). -/
def State.filterBlockAct (i : SlotId) (s : State) : State :=
  match (s.slot i).blockDone, (s.slot i).config with
  | some t4, some c =>
    if (s.slot i).state = .track ∨ (s.slot i).state = .locked then
      let r := (s.slot i).result c
      ((s.publishResult i r).handleResult i c r.e t4).releaseReturn i
    else s
  | _, _ => s

end Sys2Proof.Machine
end

