-- ==== Sys2Proof/Machine/Output.lean ====
section
/-! DEFINITION. The output stage (spec/10): the five stages of the output arithmetic, the sample ports, the amplifier enables
and the levels of the output pins. -/

namespace Sys2Proof.Machine

/-! ### The output arithmetic (R168, R169) -/

/-- What a lane hands on with its pair (R150). -/
structure Shaping where
  plan : Plan
  depth : Nat
  gain : Nat
  ramp : Option Ramp
deriving DecidableEq, Repr

/-- R168: the channel plan. -/
def applyPlan (p : Plan) (l r : Int) : Int × Int :=
  match p with
  | .stereo => (l, r)
  | .left => (l, l)
  | .right => (r, r)
  | .mix => ((l + r) / 2, (l + r) / 2)

/-- R168: a shift right by the concealment depth. -/
def attenuate (k : Nat) (v : Int) : Int := v / (2 ^ k : Nat)

/-- R169: gain in units of 2^-15. -/
def applyGain (g : Nat) (v : Int) : Int := v * g / 32768

/-- R169: the ramp level. -/
def applyRamp (r : Option Ramp) (v : Int) : Int :=
  match r with
  | none => v
  | some (.up m) => v * m / 64
  | some (.down _ m _) => v * (64 - m) / 64

/-- R169: saturation to 24 bits. -/
def saturate (v : Int) : Int := clampInt (-8388608) 8388607 v

/-- R169: stages 2 to 5 on one value. -/
def shapeValue (sh : Shaping) (v : Int) : Sample :=
  BitVec.ofInt 24 (saturate (applyRamp sh.ramp (applyGain sh.gain (attenuate sh.depth v))))

/-- R168, R169: a pair through the five stages. -/
def shapePair (sh : Shaping) (l r : Int) : Pair :=
  let p := applyPlan sh.plan l r
  { left := shapeValue sh p.1, right := shapeValue sh p.2 }

/-- R171: at an output instant the frame that begins carries the register as it stands, and the register takes the new pair. -/
def State.latchPort (i : LaneId) (p : Pair) (s : State) : State :=
  { s with out :=
      { frame := s.out.frame.set i.val s.out.reg[i] i.isLt, reg := s.out.reg.set i.val p i.isLt } }

/-! ### Sample ports (R170, R171)

`inReset` stands for RSTN asserted and, by the model's choice, for the internal power-up reset (DESIGN CHOICE, log entry 28). -/

/-- R170: SCLK falls at multiples of 8 and rises at values that leave 4; low while RSTN is asserted (R171). -/
def State.sclk (s : State) : Bool := !s.pins.inReset && decide (4 ≤ s.time.lmc.toNat % 8)

/-- R170: SFRM is low for the left slot and high for the right; low while RSTN is asserted (R171). -/
def State.sfrm (s : State) : Bool := !s.pins.inReset && decide (256 ≤ s.time.lmc.toNat % 512)

/-- R170: the bit that a port carries in a bit period of its frame. -/
def portBit (p : Pair) (period : Nat) : Bool :=
  if period < 24 then p.left.getLsbD (23 - period)
  else if period < 32 then false
  else if period < 56 then p.right.getLsbD (55 - period)
  else false

/-- R170: the level of SP0 to SP3; low while RSTN is asserted (R171). -/
def State.spLine (i : LaneId) (s : State) : Bool :=
  !s.pins.inReset && portBit s.out.frame[i] (s.time.lmc.toNat % 512 / 8)

/-! ### Amplifier enables (R172, R174) -/

/-- R172: the enable of a lane. -/
def Lane.enable (l : Lane) : Bool :=
  match l.ampMode with
  | .off => false
  | .on => true
  | .auto => l.consuming || l.holdTimer.isSome

/-- R174: the level of an AEN pin; none while the pin is not driven, that is, while RSTN is asserted, or during the
internal power-up reset (DESIGN CHOICE, log entry 28). -/
def State.aenPin (i : LaneId) (s : State) : Option Bool :=
  if s.pins.inReset then none else some ((s.lane i).enable != s.pins.aenpol)

/-- R192: the ATTN pin, open drain: true while driven low. It is released while RSTN is asserted (spec/10 section 10.5). -/
def State.attnDrivenLow (s : State) : Bool := !s.pins.inReset && s.attn

end Sys2Proof.Machine
end

