-- ==== Sys2Proof/Machine/Playout.lean ====
section
/-! DEFINITION. A lane's act at an output instant (spec/08, spec/09 sections 9.1, 9.2, 9.5): target, start test, PRIME, the
playhead step with its stages, frame entry, concealment, fetch and hand-off. -/

namespace Sys2Proof.Machine

/-! ### Target (R130) -/

/-- The map of the group slot that the lane's route stands on. -/
def State.laneMap (i : LaneId) (s : State) : Option TimelineMap :=
  match s.laneRoute i with
  | some (_, c) => (s.slot c.slot).map
  | none => none

/-- R130: the target at the instant `s.time.lmc`. -/
def State.target (i : LaneId) (m : TimelineMap) (s : State) : Time :=
  m.convert (addTicks s.time.lmc (s.lane i).delay)

/-! ### Starting (R131 to R134) -/

/-- R132: a candidate's PT lies at least the prime margin after the target. -/
def isCandidate (t : Time) (f : StoredFrame) : Bool := decide (0 ≤ timeDist (addTicks t Config.primeMargin) f.pt)

/-- R132: the candidate at the smallest signed distance from the release point. -/
def startFrame (rp : Seq) (t : Time) : List DirEntry → Option StoredFrame
  | [] => none
  | e :: rest =>
    match e, startFrame rp t rest with
    | .valid f, none => if isCandidate t f then some f else none
    | .valid f, some g =>
      if isCandidate t f ∧ seqDist rp f.seq < seqDist rp g.seq then some f else some g
    | _, r => r

/-- R131: the slot admits a start: LEADING for a leader, LOCKED for a follower (R83). -/
def GroupSlot.admits (g : GroupSlot) : Bool :=
  match g.role with
  | some .leader => g.state == .leading
  | some .follower => g.state == .locked
  | none => false

/-- R131: the start test, answering the start frame it passes with. -/
def State.startTest (i : LaneId) (s : State) : Option StoredFrame :=
  match s.laneRoute i, s.laneMap i with
  | some (r, c), some m =>
    match (s.route r).state, (s.route r).release with
    | .live, some rp =>
      if (s.slot c.slot).admits && !s.muted then startFrame rp (s.target i m) (s.route r).dir else none
    | _, _ => none
  | _, _ => none

/-- R133: the lane enters PRIME with its start frame; its hold timer stops (R173). -/
def Lane.prime (f : StoredFrame) (l : Lane) : Lane :=
  { l with
    state := .prime
    current := some { seq := f.seq, pt := f.pt, n := f.n, kind := .present }
    repeatSrc := none, concealedRun := 0, holdTimer := none }

/-- R115: the route of a lane recomputes its release point. -/
def State.recomputeLane (i : LaneId) (s : State) : State :=
  match (s.lane i).route with
  | some r => s.recompute r
  | none => s

/-- R131, R133: a lane in WAIT makes its start test. -/
def State.waitTurn (i : LaneId) (s : State) : State :=
  match s.startTest i with
  | some f => (s.modLane i (Lane.prime f)).recomputeLane i
  | none => s

/-! ### Frame entry (R142 to R145, R152 to R157) -/

/-- R142: where the playhead lies in the current frame, in units of 2^-16 tick. -/
def headOffset (h : Playhead) (f : CurrentFrame) : Int := headDist (timeToHead f.pt) h

/-- R142: the length of a frame in units of 2^-16 tick. -/
def frameSpan (n : Nat) : Int := (n : Int) * 2 ^ 25

/-- R142: the playhead has passed the end of the current frame. -/
def Lane.pastEnd (l : Lane) : Bool :=
  match l.playhead, l.current with
  | some h, some f => decide (frameSpan f.n ≤ headOffset h f)
  | _, _ => false

/-- R142: the expected PT of the next frame. -/
def CurrentFrame.nextPt (f : CurrentFrame) : Time := addTicks f.pt ((f.n : Int) * 512)

/-- R142: the class of the next frame. -/
inductive NextFrame where
  | continuous (f : StoredFrame)
  | discontinuous
  | absent
deriving DecidableEq, Repr

/-- R142: what the directory holds for the sequence after the current frame's. -/
def classifyNext (t : Route) (c : RouteConfig) (f : CurrentFrame) : NextFrame :=
  match t.entryFor c (f.seq + 1) with
  | .valid g =>
    if g.seq = f.seq + 1 then
      if g.restart ∨ timeDist f.nextPt g.pt < -511 ∨ 511 < timeDist f.nextPt g.pt then .discontinuous
      else .continuous g
    else .absent
  | _ => .absent

/-- R143: the next frame is entered. -/
def Lane.enter (g : StoredFrame) (l : Lane) : Lane :=
  { l with
    current := some { seq := g.seq, pt := g.pt, n := g.n, kind := .present }
    repeatSrc := none, concealedRun := 0 }

/-- R152, R153, R157: the next frame is concealed: the run grows up to the limit; a REPEAT run takes as its source the
frame it begins on leaving. -/
def Lane.conceal (c : RouteConfig) (f : CurrentFrame) (l : Lane) : Lane :=
  { l with
    current := some { seq := f.seq + 1, pt := f.nextPt, n := f.n, kind := .concealed }
    concealedRun := if l.concealedRun < c.concealLimit then l.concealedRun + 1 else l.concealedRun
    repeatSrc := if c.concealMode = .repeat then (if l.concealedRun = 0 then some f.seq else l.repeatSrc) else none }

/-- R152, R157: a frame is concealed, counted and reported, and the release point recomputed. -/
def State.concealNext (i : LaneId) (r : RouteId) (c : RouteConfig) (f : CurrentFrame) (s : State) : State :=
  (((s.modLane i (Lane.conceal c f)).bump r (fun k => { k with concealed := countUp k.concealed })).raise
    .concealed).recompute r

/-- R162: a staged change lands at the first frame entry made in PLAY. A route part naming another route that is ARMED or LIVE
begins a ramp-down and stays staged alone; otherwise the staged change becomes absent. -/
def State.landAtEntry (i : LaneId) (s : State) : State :=
  match (s.lane i).state, (s.lane i).staged with
  | .play, some v =>
    match v.route with
    | some r =>
      if (s.lane i).route ≠ some r ∧ (s.route r).taking then
        s.modLane i (fun l =>
          { ((l.applySettings v).rampDown .wait) with
            staged := some { route := some r, plan := none, gain := none, delay := none, amp := none } })
      else s.modLane i (fun l => { l.applySettings v with staged := none })
    | none => s.modLane i (fun l => { l.applySettings v with staged := none })
  | _, _ => s

/-- R142, R152, R155, R156, R157: one frame entry. -/
def State.frameEntry (i : LaneId) (s : State) : State :=
  let s := s.landAtEntry i
  match s.laneRoute i, (s.lane i).current with
  | some (r, c), some f =>
    match classifyNext (s.route r) c f, (s.lane i).state with
    | .continuous g, _ => (s.modLane i (Lane.enter g)).recompute r
    | .discontinuous, .play => (s.modLane i (Lane.rampDown .wait)).concealNext i r c f
    | .absent, .play =>
      if (s.lane i).concealedRun < c.concealLimit then s.concealNext i r c f
      else ((s.modLane i (Lane.rampDown .wait)).raise .starved).concealNext i r c f
    | _, _ => s.concealNext i r c f
  | _, _ => s

/-- R137, R144: the lane realigns. -/
def State.realign (i : LaneId) (s : State) : State := (s.modLane i (Lane.rampDown .wait)).raise .realigned

/-- R144: frame entries while the playhead lies past the current frame's end, at most `fuel` of them. The loop ends when an
entry takes the lane out of PLAY; a lane in PLAY still past the end after the last entry realigns. -/
def State.entryLoop (i : LaneId) : Nat → State → State
  | 0, s => if (s.lane i).pastEnd ∧ (s.lane i).state = .play then s.realign i else s
  | fuel + 1, s =>
    if (s.lane i).pastEnd then
      let s' := s.frameEntry i
      if (s.lane i).state = .play ∧ (s'.lane i).state ≠ .play then s' else s'.entryLoop i fuel
    else s

/-! ### Fetch (R146 to R149) -/

/-- R147: interpolation of one channel. -/
def interpolate (x y phi : Int) : Int := x + (y - x) * phi / 65536

/-- R146: a frame's value at an index and the page it is read from; none where no read is made. -/
structure Fetched where
  left : Int
  right : Int
  page : Option Nat
deriving DecidableEq, Repr

/-- R146: the values read from a stored frame. -/
def State.storedSample (c : RouteConfig) (q : Seq) (j : Nat) (s : State) : Fetched :=
  let p := readStored s.store.mem (frameSampleAddress c q j)
  { left := p.left.toInt, right := p.right.toInt, page := some (entryPage c (dirIndex c q) j) }

/-- R146, R153: the sample values x of the current frame: stored, 0 for SILENCE, the repeat source's for REPEAT. -/
def State.frameSample (c : RouteConfig) (l : Lane) (f : CurrentFrame) (j : Nat) (s : State) : Fetched :=
  match f.kind, l.repeatSrc with
  | .present, _ => s.storedSample c f.seq j
  | .concealed, some q => s.storedSample c q j
  | .concealed, none => { left := 0, right := 0, page := none }

/-- R148: the value after the sample at index `j`: the frame's own, or the next frame's first when that frame is present and
continuous, or the same value again. -/
def State.nextSample (r : RouteId) (c : RouteConfig) (l : Lane) (f : CurrentFrame) (j : Nat) (s : State) : Fetched :=
  if j + 1 < f.n then s.frameSample c l f (j + 1)
  else
    match classifyNext (s.route r) c f with
    | .continuous g => s.storedSample c g.seq 0
    | _ => s.frameSample c l f j

/-- R149: one read request for each page that holds a sample needed. R122 serves a lane's requests in the order made, and
R149 does not give that order. DESIGN CHOICE (log entry 25): the page of x_i before the page of x_(i+1). -/
def readPages (a b : Option Nat) : List Nat :=
  match a, b with
  | some p, some q => if p = q then [p] else [p, q]
  | some p, none => [p]
  | none, some q => [q]
  | none, none => []

/-- R146 to R149: the pair at the playhead, and the pages read for it. -/
def State.fetch (i : LaneId) (s : State) : Int × Int × List Nat :=
  match s.laneRoute i, (s.lane i).current, (s.lane i).playhead with
  | some (r, c), some f, some h =>
    let o := headOffset h f
    let l := s.lane i
    if o < 0 then
      let x := s.frameSample c l f 0
      (x.left, x.right, readPages x.page none)
    else if frameSpan f.n ≤ o then
      let x := s.frameSample c l f (f.n - 1)
      (x.left, x.right, readPages x.page none)
    else
      let j : Nat := Int.toNat (o / 2 ^ 25)
      let phi := (o - (j : Int) * 2 ^ 25) / 512
      let x := s.frameSample c l f j
      let y := s.nextSample r c l f j
      (interpolate x.left y.left phi, interpolate x.right y.right phi, readPages x.page y.page)
  | _, _, _ => (0, 0, [])

/-! ### Hand-off (R139, R140, R150, R154) -/

/-- R154: the concealment depth. -/
def Lane.depth (l : Lane) : Nat :=
  match l.current with
  | some f => if f.kind = .concealed then l.concealedRun else 0
  | none => 0

/-- R150: what shapes the pair of a lane in PLAY or RAMPDOWN. -/
def Lane.shaping (l : Lane) : Shaping := { plan := l.plan, depth := l.depth, gain := l.gain, ramp := l.ramp }

/-- R139, R140: the ramp's count and level advance after a hand-off. -/
def Ramp.advance : Ramp → Ramp
  | .up m => .up (m + 1)
  | .down c m d => .down (c + 1) (min 64 (m + 1)) d

/-- R150: a lane in STOP, WAIT or PRIME hands on silence and asks for no read (R149). -/
def State.handSilence (i : LaneId) (s : State) : State :=
  let s := { s with store := { s.store with reads := s.store.reads.set i.val [] i.isLt } }
  s.latchPort i (shapePair { plan := (s.lane i).plan, depth := 0, gain := (s.lane i).gain, ramp := none } 0 0)

/-- R136, stages 3 and 4: the lane reads its samples and hands on the pair; its ramp advances. The read requests of the
instant before have all been served (R123); those of this instant take their place (log entry 11). -/
def State.fetchAndHand (i : LaneId) (s : State) : State :=
  let x := s.fetch i
  let s := { s with store := { s.store with reads := s.store.reads.set i.val x.2.2 i.isLt } }
  (s.latchPort i (shapePair (s.lane i).shaping x.1 x.2.1)).modLane i (fun l => { l with ramp := l.ramp.map Ramp.advance })

/-! ### The step (R136 to R138) -/

/-- R138: the slew for an error. -/
def slewOf (eps : Int) : Int := clampInt (-16384) 16384 (eps / 4096)

/-- R138: the advance of a step: with a map, its trim and the slew for the error; without one, exactly 2^25. -/
def advanceOf (m : Option (TimelineMap × Int)) : Int :=
  match m with
  | some (m, eps) => 2 ^ 25 + 2 * m.trim + slewOf eps
  | none => 2 ^ 25

/-- R136, stage 5. -/
def Lane.advance (d : Int) (l : Lane) : Lane :=
  { l with playhead := l.playhead.map (fun h => h + BitVec.ofInt 64 d) }

/-- R136, stages 2 to 5, with the advance formed at stage 1. Stage 6 is the follow-up act RAMP_END. -/
def State.stepFromEntry (i : LaneId) (d : Int) (s : State) : State :=
  let fuel := match s.laneRoute i with
    | some (_, c) => c.depth
    | none => 0
  ((s.entryLoop i fuel).fetchAndHand i).modLane i (Lane.advance d)

/-- R137: the error, where the slot holds a map. -/
def State.errorOf (i : LaneId) (s : State) : Option (TimelineMap × Int) :=
  match s.laneMap i, (s.lane i).playhead with
  | some m, some h => some (m, headDist h (timeToHead (s.target i m)))
  | _, _ => none

/-- R137: the realign test of a lane in PLAY. -/
def mustRealign (st : LaneState) (e : Option (TimelineMap × Int)) : Bool :=
  match st, e with
  | .play, some (_, eps) => decide (2 ^ 33 < eps.natAbs)
  | _, _ => false

/-- R136: the step of a lane in PLAY or RAMPDOWN. -/
def State.playTurn (i : LaneId) (s : State) : State :=
  let e := s.errorOf i
  (if mustRealign (s.lane i).state e then s.realign i else s).stepFromEntry i (advanceOf e)

/-- R134: the lane enters PLAY with its playhead on the target and a ramp-in at level 1. -/
def Lane.startPlay (t : Time) (l : Lane) : Lane :=
  { l with state := .play, playhead := some (timeToHead t), ramp := some (.up 1) }

/-- R134: a lane in PRIME enters PLAY when its target has reached the start frame's PT, and hands on silence until then. -/
def State.primeTurn (i : LaneId) (s : State) : State :=
  match s.laneMap i, (s.lane i).current with
  | some m, some f =>
    if 0 ≤ timeDist f.pt (s.target i m) then
      (s.modLane i (Lane.startPlay (s.target i m))).stepFromEntry i (advanceOf (some (m, 0)))
    else s.handSilence i
  | _, _ => s.handSilence i

/-- A lane's act at an output instant, by its state (R131, R134, R136, R150). -/
def State.laneTurn (i : LaneId) (s : State) : State :=
  match (s.lane i).state with
  | .stop => s.handSilence i
  | .wait => (s.waitTurn i).handSilence i
  | .prime => s.primeTurn i
  | .play | .rampdown => s.playTurn i

/-- The ramp ends that are due take place, in lane order. -/
def State.endRamps (s : State) : State := allLanes.foldl (fun s i => s.rampEndAct i) s

/-- R132: lanes act in lane order, each finding the store as the lanes before it have left it; a ramp of an earlier lane that
has come to its end at this instant is ended before a later bound lane acts (R136 stage 6; log entry 4). -/
def State.laneInOrder (i : LaneId) (s : State) : State :=
  if (s.lane i).state = .stop then s.laneTurn i else s.endRamps.laneTurn i

/-- R175: the pins are sampled. -/
def State.samplePins (sns0 sns1 : Bool) (s : State) : State :=
  (s.setInput 0 ((s.input 0).sample sns0)).setInput 1 ((s.input 1).sample sns1)

/-- R34, R136, R171, R175: what happens at an output instant. With `senseFirst`, a sense input accepted now is taken before
the lanes' steps; otherwise its acceptance follows them (R166). -/
def State.instantActs (sns0 sns1 senseFirst : Bool) (s : State) : State :=
  let lanes := fun (s : State) => (allLanes.foldl (fun s i => s.laneInOrder i) s).arbitrate
  if senseFirst then lanes (((s.samplePins sns0 sns1).senseAcceptAct 0).senseAcceptAct 1)
  else (lanes s).samplePins sns0 sns1

end Sys2Proof.Machine
end

