-- ==== Sys2Proof/Machine/Settle.lean ====
section
/-! DEFINITION. Follow-up acts. The opcode table gives seven events a row of their own that the rules make part of the act
that causes them: FILTER_BLOCK_COMPLETE (R63, R74), PLACEMENT_COMPLETE (R120), HOLDOVER_ENTERED (R79), LEADER_LOST (R81),
RAMP_IN_END (R139), RAMP_END (R136 stage 6) and SENSE_ACCEPT (R175). The causing command leaves such an act due; its row performs it; and every other
command first performs what is due, so that nothing sees the part between the two (log entry 4); but for SLOT_PEEK_GRANT, whose
copy may be taken before a placement's completion (R125). -/

namespace Sys2Proof.Machine

/-- Every follow-up act that is due takes place, but for a placement's completion. -/
def State.settleUnplaced (s : State) : State :=
  let s := allSlots.foldl (fun s i => s.filterBlockAct i) s
  let s := allSlots.foldl (fun s i => (s.holdoverAct i).leaderLostAct i) s
  let s := allLanes.foldl (fun s i => s.rampInEndAct i) s
  ((s.endRamps).senseAcceptAct 0).senseAcceptAct 1

/-- Every follow-up act that is due takes place. -/
def State.settle (s : State) : State := s.completePlacement.settleUnplaced

/-- The slot owes no follow-up act. -/
def GroupSlot.quiet (g : GroupSlot) : Bool := g.blockDone.isNone && g.lossDue.isNone

/-- The lane owes no follow-up act. -/
def Lane.quiet (l : Lane) : Bool :=
  match l.ramp with
  | some (.up m) => decide (m ≤ Config.rampLength)
  | some (.down c _ _) => l.state != .rampdown || decide (c ≤ Config.rampLength)
  | none => true

/-- The input owes no follow-up act. -/
def SenseInput.quiet (x : SenseInput) : Bool := decide (x.run < Config.debounce)

/-- No placement has ended its last burst without being settled. -/
def Store.quiet (t : Store) : Bool :=
  match t.placement with
  | some p => p.abandoned || decide (p.written < framePages p.frame.n)
  | none => true

/-- No follow-up act is due, but for a placement's completion. -/
def State.quietUnplaced (s : State) : Bool :=
  allSlots.all (fun i => (s.slot i).quiet) && allLanes.all (fun i => (s.lane i).quiet)
    && (s.input 0).quiet && (s.input 1).quiet

/-- No follow-up act is due. -/
def State.quiet (s : State) : Bool := s.store.quiet && s.quietUnplaced

/-- R9, R18, R33: while RSTN is asserted nothing happens; otherwise the command acts after what was due. -/
def State.act (f : State → State) (s : State) : State := if s.pins.inReset then s else f s.settle

/-- R125: the same for a command that may come before the completion of a placement of its own moment: that completion, if
due, stays due. -/
def State.actUnplaced (f : State → State) (s : State) : State := if s.pins.inReset then s else f s.settleUnplaced

/-- The same for a command whose moment is the counter value `now`. -/
def State.actAt (now : Time) (f : State → State) (s : State) : State :=
  if s.pins.inReset then s else f (s.settle.clockTo now)

/-- A follow-up act's own row: it performs that act alone. -/
def State.followUp (f : State → State) (s : State) : State := if s.pins.inReset then s else f s

end Sys2Proof.Machine
end

