-- ==== Sys2Proof/Machine/Events.lean ====
section
/-! DEFINITION. The commands of the timing unit, the timebase monitor, the jitter store, the lanes and the output stage that
no frame and no request brings: follow-up acts, bursts, output instants, timers, due events. -/

namespace Sys2Proof.Machine

/-- FILTER_BLOCK_COMPLETE (R68, R70 to R74, R76 to R78, R84). -/
def execFilterBlockComplete (slot : SlotId) (s : State) : Host.Outcome State Fault Refusal :=
  .next (s.followUp (State.filterBlockAct slot))

/-- HOLDOVER_ENTERED (R79, R82). -/
def execHoldoverEntered (slot : SlotId) (s : State) : Host.Outcome State Fault Refusal :=
  .next (s.followUp (State.holdoverAct slot))

/-- LEADER_LOST (R81, R82, R84). -/
def execLeaderLost (slot : SlotId) (s : State) : Host.Outcome State Fault Refusal :=
  .next (s.followUp (State.leaderLostAct slot))

/-- RAMP_IN_END (R139). -/
def execRampInEnd (lane : LaneId) (s : State) : Host.Outcome State Fault Refusal :=
  .next (s.followUp (State.rampInEndAct lane))

/-- RAMP_END (R103, R115, R129, R141, R163, R173). -/
def execRampEnd (lane : LaneId) (s : State) : Host.Outcome State Fault Refusal :=
  .next (s.followUp (State.rampEndAct lane))

/-- SENSE_ACCEPT (R166, R175, R176). -/
def execSenseAccept (input : InputId) (s : State) : Host.Outcome State Fault Refusal :=
  .next (s.followUp (State.senseAcceptAct input))

/-- PLACEMENT_COMPLETE (R120). -/
def execPlacementComplete (s : State) : Host.Outcome State Fault Refusal := .next (s.followUp State.completePlacement)

/-- STORE_BURST_END (R104, R112, R119, R121, R122). -/
def execStoreBurstEnd (s : State) : Host.Outcome State Fault Refusal := .next (s.act State.endBurst)

/-- R34: the output instant of the present counter value, taken once, at a multiple of 512. -/
def State.outputInstant (sns0 sns1 senseFirst : Bool) (s : State) : State :=
  if s.time.lmc.toNat % 512 = 0 ∧ s.time.instantTaken = false then
    ({ s with time := { s.time with instantTaken := true } } : State).instantActs sns0 sns1 senseFirst
  else s

/-- OUTPUT_INSTANT (R34, R130 to R134, R136 to R150, R152 to R157, R162, R168 to R171, R175). -/
def execOutputInstant (now : Time) (sns0 sns1 senseFirst : Bool) (s : State) : Host.Outcome State Fault Refusal :=
  .next (s.actAt now (State.outputInstant sns0 sns1 senseFirst))

/-- R173: the counter takes the value at which the lane's hold timer expires: the timer stops. -/
def State.expireHold (i : LaneId) (s : State) : State :=
  if (s.lane i).holdTimer = some s.time.lmc then s.modLane i (fun l => { l with holdTimer := none }) else s

/-- AMP_HOLD_EXPIRY (R35, R172, R173). -/
def execAmpHoldExpiry (now : Time) (lane : LaneId) (s : State) : Host.Outcome State Fault Refusal :=
  .next (s.actAt now (State.expireHold lane))

/-- R36: a window is judged active when its count lies from 4,000 to 4,192. -/
def judgedActive (count : Nat) : Bool := decide (4000 ≤ count) && decide (count ≤ 4192)

/-- R36, R38: a monitor window ends with the count of its edges; the next begins with 0. -/
def State.endWindow (edges : Nat) (s : State) : State :=
  let active := judgedActive (s.time.monitorEdges + edges)
  let fresh : State := { s with time := { s.time with monitorEdges := 0 } }
  match s.time.state, active with
  | .pending, true => ({ fresh with time := { fresh.time with state := .refin } } : State).raise .refinActive
  | .refin, false => ({ fresh with time := { fresh.time with state := .pending } } : State).raise .refinLost
  | _, _ => fresh

/-- MONITOR_WINDOW_END (R33, R36, R38). -/
def execMonitorWindowEnd (edges : Nat) (s : State) : Host.Outcome State Fault Refusal :=
  .next (s.act (State.endWindow edges))

/-- TICK_DUE (R52, R55, R56, R58). -/
def execTickDue (now : Time) (order : List SlotId) (s : State) : Host.Outcome State Fault Refusal :=
  .next (s.actAt now (State.tickAct order))

/-- STREAM_DUE (R53, R55, R56, R58). -/
def execStreamDue (now : Time) (slot : SlotId) (s : State) : Host.Outcome State Fault Refusal :=
  .next (s.actAt now (State.streamDueAct slot))

/-- SOUNDING_TIMEOUT (R53, R57, R58). -/
def execSoundingTimeout (now : Time) (slot : SlotId) (s : State) : Host.Outcome State Fault Refusal :=
  .next (s.actAt now (State.timeoutAct slot))

end Sys2Proof.Machine
end

