-- ==== Sys2Proof/WellFormed.lean ====
section
/-! DEFINITION. What the spec says of a command's operands. `exec` gives every command a meaning, well formed or not:
an operand that cannot stand for the event leaves the part to judge it as the rules do (a word by R19, a counter value
by R34 and R52). -/

namespace Sys2Proof

/-- R1, R19: the word is a data word (control flag clear) or has even parity. -/
def LinkWord.isByteArrival (w : LinkWord) : Bool :=
  !w.getLsbD 8 || ((List.range 10).filter (fun k => w.getLsbD k)).length % 2 == 0

/-- R19: the code is none of IDLE, SOF, EOF, ABT. -/
def Byte.isBadCode (c : Byte) : Bool :=
  c != 0x3C && c != 0xA5 && c != 0x5A && c != 0xF0

/-- R34: a counter value at which an output instant occurs. -/
def Time.isInstant (t : Time) : Bool := t.toNat % 512 == 0

/-- R52: a counter value at which some tick bit, 16 to 27, rises. -/
def Time.isTick (t : Time) : Bool :=
  (List.range 12).any (fun j => t.toNat % 2 ^ (j + 17) == 2 ^ (j + 16))

/-- The operands of the command are ones its event can have. -/
def Instr.wellFormed : Instr → Bool
  | .dataByteArrival w => LinkWord.isByteArrival w
  | .badCodeArrival _ c => Byte.isBadCode c
  | .outputInstant now _ _ _ => Time.isInstant now
  | .tickDue now _ => Time.isTick now
  | .powerOnReset | .rstnRelease _ _ | .sofArrival _ _ | .eofArrival _ | .abtArrival _ | .idleArrival _
  | .dispatch _ | .filterBlockComplete _ | .mgmtCopyEnd | .storeBurstEnd | .placementComplete | .departureStart _
  | .departureEnd | .txholdAssert | .txholdRelease | .rampInEnd _ | .rampEnd _ | .ampHoldExpiry _ _ | .senseAccept _
  | .monitorWindowEnd _ | .streamDue _ _ | .soundingTimeout _ _ | .holdoverEntered _ | .leaderLost _
  | .mgmtFrameBegin | .unknownRequest | .identify | .status | .conditionsClear | .conditionsMask | .timebaseSelect
  | .groupSet _ | .groupClear | .groupSound | .groupMeasure | .routeArm | .routeDisarm _ | .routeCounts | .laneBind _
  | .laneWaitEnd _ | .laneUnbind _ | .laneGain | .senseAction | .slotPeek | .slotPeekGrant | .pageRuns
  | .deviceReset => true

end Sys2Proof
end

