-- ==== Sys2Proof/Machine/Clock.lean ====
section
/-! DEFINITION. What an idle step is: the count source gives one rising edge (R33), and what falls due at the new counter value
takes place. The table has no row for a count; log entries 1 and 10. -/

namespace Sys2Proof.Machine

/-- R36: in the state REFIN the edge counted is an edge of REFIN, which the monitor counts too. -/
def State.monitorEdge (s : State) : State :=
  if s.time.state = .refin then { s with time := { s.time with monitorEdges := s.time.monitorEdges + 1 } } else s

/-- R34: the sense pins as they last stood. -/
def State.instantNow (s : State) : State := s.outputInstant (s.input 0).pin (s.input 1).pin false

/-- R35: what is armed for a counter value takes place when the counter takes it: deadlines (R57), STREAM due events (R53),
rising tick bits (R52), hold timers (R173) and the output instant (R34), each finding done what the ones before it left due.
The order is DESIGN CHOICE (log entry 10). -/
def State.dueAt (s : State) : State :=
  let s := allSlots.foldl (fun s i => (s.timeoutAct i).settle) s
  let s := allSlots.foldl (fun s i => (s.streamDueAct i).settle) s
  let s := if Time.isTick s.time.lmc then (s.tickAct []).settle else s
  let s := allLanes.foldl (fun s i => s.expireHold i) s
  s.instantNow

/-- R33: one rising edge of the count source: the counter takes its next value, with what is due at it. While RSTN is
asserted the counter holds 0. -/
def State.tick (s : State) : State :=
  if s.pins.inReset then s
  else ((s.settle.clockTo (s.time.lmc + 1)).monitorEdge).dueAt

end Sys2Proof.Machine
end

