-- ==== Sys2Proof/Machine/Resets.lean ====
section
/-! DEFINITION. Power-on reset, its release, and DEVICE-RESET (R9, R18, R32, R39, R51, R107, R127, R151, R171, R174 to R177,
R193, R194); the commands POWER_ON_RESET and RSTN_RELEASE. -/

namespace Sys2Proof.Machine

/-- R194: every block takes its DEVICE-RESET values; the timebase, the straps, the frames under way on the ports and the
memory's contents are kept. A frame in departure is ended with ABT (R18). -/
def State.deviceReset (s : State) : State :=
  { s with
    rx := Receiver.afterReset
    tx := { Transmitter.afterReset with
      words := if s.tx.departing.isSome then [controlWord false 0xF0] else [] }
    slots := Vector.replicate 4 GroupSlot.unused
    routes := Vector.replicate 8 Route.unused
    store := Store.afterReset s.store.mem
    lanes := Vector.replicate 4 Lane.afterReset
    out := { s.out with reg := Vector.replicate 4 Pair.zero }
    sense := s.sense.map (fun x => SenseInput.afterReset x.pin)
    mgmt := Mgmt.afterReset
    cond := { present := 0, mask := 0 } }

/-- Power-on reset: RSTN asserted, or power-up. DESIGN CHOICE (log entry 28): during the internal power-up reset with RSTN already
high (R177), of which the spec gives no pin levels, the part is as while RSTN is asserted (`inReset`). A frame in departure is cut off without ABT (R18); the counter holds 0 (R33). -/
def State.powerOn (s : State) : State :=
  { s with
    time := Timebase.afterReset
    pins := { s.pins with inReset := true }
    rx := Receiver.afterReset
    tx := Transmitter.afterReset
    slots := Vector.replicate 4 GroupSlot.unused
    routes := Vector.replicate 8 Route.unused
    store := Store.afterReset s.store.mem
    lanes := Vector.replicate 4 Lane.afterReset
    out := { reg := Vector.replicate 4 Pair.zero, frame := Vector.replicate 4 Pair.zero }
    sense := s.sense.map (fun x => SenseInput.afterReset x.pin)
    mgmt := Mgmt.afterReset
    cond := { present := 0, mask := 0 } }

/-- R177: the link address that the address straps give; 15 is taken as 14. -/
def addressOfStraps (adr : BitVec 4) : Byte := if adr = 15 then 14 else adr.setWidth 8

/-- R177, R33, R36: the release of reset, when RSTN was asserted: the straps are sampled, the counter starts from 0. -/
def State.release (adr : BitVec 4) (aenpol : Bool) (s : State) : State :=
  if s.pins.inReset then
    { s with
      time := Timebase.afterReset
      pins := { s.pins with inReset := false, straps := adr, aenpol := aenpol, linkAddress := addressOfStraps adr } }
  else s

/-- POWER_ON_RESET (R9, R18, R32, R33, R39, R51, R107, R127, R151, R171, R174 to R178, R192). -/
def execPowerOnReset (s : State) : Host.Outcome State Fault Refusal := .next s.powerOn

/-- RSTN_RELEASE (R177, R33, R36, R171, R174). -/
def execRstnRelease (adr : BitVec 4) (aenpol : Bool) (s : State) : Host.Outcome State Fault Refusal :=
  .next (s.release adr aenpol)

end Sys2Proof.Machine
end

