-- ==== Sys2Proof/Machine/Departures.lean ====
section
/-! DEFINITION. The link transmitter (R10 to R18) and its commands. -/

namespace Sys2Proof.Machine

/-- R16: the entry's slot is in use with the entry's tag and LEADING. -/
def State.returnStands (e : ReturnEntry) (s : State) : Bool :=
  (s.slot e.slot).inUse && (s.slot e.slot).tag == e.tag && (s.slot e.slot).state == .leading

/-- R13, R10: a frame starts its departure; its SOF is sent. -/
def State.sendSof (cls : DepartureClass) (bytes : List Byte) (s : State) : State :=
  { s with tx := { s.tx with departing := some { cls := cls, bytes := bytes }, words := [controlWord false 0xA5] } }

/-- R57: the departure report: a QUEUED record with this sequence becomes OUTSTANDING, its deadline set. -/
def GroupSlot.departed (seq : BitVec 8) (t1 : Time) (g : GroupSlot) : GroupSlot :=
  match g.record, g.config with
  | some (.queued q), some c =>
    if q = seq then { g with record := some (.outstanding q t1 (addTicks t1 c.timeout)) } else g
  | _, _ => g

/-- R16: the oldest RETURN departs with t3, the group time of its SOF. -/
def State.departReturn (e : ReturnEntry) (rest : List ReturnEntry) (s : State) : State :=
  let t3 := match (s.slot e.slot).map with
    | some m => m.convert s.time.lmc
    | none => 0
  ({ s with tx := { s.tx with ret := rest } } : State).sendSof .ret (putTime e.bytes 17 t3)

/-- R15: the oldest SOUNDING departs with t1, and its departure is reported. -/
def State.departSounding (e : SoundingEntry) (rest : List SoundingEntry) (s : State) : State :=
  (({ s with tx := { s.tx with snd := rest } } : State).sendSof .sounding (putTime e.bytes 5 s.time.lmc)).modSlot e.slot
    (GroupSlot.departed e.seq s.time.lmc)

/-- R16: RETURN entries that no longer stand are removed from the front of the class. -/
def State.dropStaleReturns (s : State) : State :=
  { s with tx := { s.tx with ret := s.tx.ret.dropWhile (fun e => !s.returnStands e) } }

/-- R13: the oldest entry of the first class that is not empty departs. -/
def State.select (s : State) : State :=
  match s.tx.ret, s.tx.snd, s.tx.src, s.tx.rep with
  | e :: rest, _, _, _ => s.departReturn e rest
  | [], e :: rest, _, _ => s.departSounding e rest
  | [], [], b :: rest, _ => ({ s with tx := { s.tx with src := rest } } : State).sendSof .source b
  | [], [], [], b :: rest => ({ s with tx := { s.tx with rep := rest } } : State).sendSof .reply b
  | [], [], [], [] => s

/-- R10, R19: the IDLE word, of odd parity. -/
def idleWord : LinkWord := controlWord false 0x3C

/-- What the transmit line carries between two events: no words, one word again and again, or a frame's words. -/
inductive TxLine where
  | silent
  | idle (word : LinkWord)
  | frame (words : List LinkWord)
deriving DecidableEq, Repr

/-- R10, R14, R18: what the transmitter sends from the present state on, until its next event. While RSTN is asserted it sends
no words; in FREE it sends IDLE words continuously, held by TXHOLD or not; in SENDING, its SOF sent, it sends the frame's data
words and its EOF with no IDLE among them. `tx.words` holds what the last departure event has put on the line before that. -/
def State.txLine (s : State) : TxLine :=
  if s.pins.inReset then .silent
  else
    match s.tx.departing with
    | some d => .frame (wordsAfterSof d.bytes)
    | none => .idle idleWord

/-- R13, R14: a FREE transmitter, not held, selects. -/
def State.startDeparture (s : State) : State :=
  if s.tx.departing.isSome || s.pins.txhold then s else s.dropStaleReturns.select

/-- R193: the reply that has just departed carries a DEVICE-RESET that waits for it: the engine is in RESET_WAIT and no reply
is left in the class (log entry 18). -/
def State.resetFallsDue (cls : DepartureClass) (s : State) : Bool :=
  cls == .reply && s.mgmt.phase == .resetWait && s.tx.rep.isEmpty

/-- R17: the data words and the EOF have been sent; the transmitter is FREE. The end of a REPLY may bring a DEVICE-RESET. -/
def State.endDeparture (s : State) : State :=
  match s.tx.departing with
  | none => s
  | some d =>
    let freed : State := { s with tx := { s.tx with departing := none, words := wordsAfterSof d.bytes } }
    if s.resetFallsDue d.cls then
      let r := freed.deviceReset
      { r with tx := { r.tx with words := wordsAfterSof d.bytes } }
    else freed

/-- DEPARTURE_START (R13 to R16, R57). -/
def execDepartureStart (now : Time) (s : State) : Host.Outcome State Fault Refusal :=
  .next (s.actAt now State.startDeparture)

/-- DEPARTURE_END (R17, R193, R194). -/
def execDepartureEnd (s : State) : Host.Outcome State Fault Refusal := .next (s.act State.endDeparture)

/-- TXHOLD_ASSERT (R14): the pin's level, which no reset changes (R18). -/
def execTxholdAssert (s : State) : Host.Outcome State Fault Refusal :=
  .next { s with pins := { s.pins with txhold := true } }

/-- TXHOLD_RELEASE (R14). -/
def execTxholdRelease (s : State) : Host.Outcome State Fault Refusal :=
  .next { s with pins := { s.pins with txhold := false } }

end Sys2Proof.Machine
end

