-- ==== Sys2Proof/Machine/Dispatcher.lean ====
section
/-! DEFINITION. The frame dispatcher (R27 to R32), the route unit's admission and stamping (R93 to R99), and the commands
DISPATCH and MGMT_COPY_END. -/

namespace Sys2Proof.Machine

/-- Spec/02 section 2.7: the dispatcher's state, read off the queue and the hand. -/
inductive DispatcherState where
  | idle | waiting | handed
deriving DecidableEq, Repr

/-- Spec/02 section 2.7. A COMPLETE oldest entry whose DISPATCH has not yet come counts as WAITING. -/
def State.dispatcherState (s : State) : DispatcherState :=
  if s.rx.hand.isSome then .handed else if s.rx.ingress.isEmpty then .idle else .waiting

/-! ### Source stamping (R96 to R99) -/

/-- What R97 sets in a frame. -/
structure Stamp where
  pt : Time
  restart : Bool
  restamped : Bool
deriving DecidableEq, Repr

/-- R97: the slack lies from lead/4, compared as an exact quotient, to 2 × lead. -/
def slackInBand (lead : Nat) (slack : Int) : Bool := decide ((lead : Int) ≤ 4 * slack) && decide (slack ≤ 2 * lead)

/-- R97: presentation time and RESTART of a frame that arrived at the group time `ga`. -/
def stampFor (lead : Nat) (last : Option (Time × Nat)) (arrivedRestart : Bool) (ga : Time) : Stamp :=
  match last with
  | none => { pt := addTicks ga lead, restart := true, restamped := false }
  | some (lastPt, lastN) =>
    if arrivedRestart then { pt := addTicks ga lead, restart := true, restamped := false }
    else
      let expected := addTicks lastPt ((lastN : Int) * 512)
      if slackInBand lead (timeDist ga expected) then { pt := expected, restart := false, restamped := false }
      else { pt := addTicks ga lead, restart := true, restamped := true }

/-- R99: the stamped copy is offered to the SOURCE class. -/
def State.offerSource (b : List Byte) (s : State) : State :=
  if s.tx.src.length < Config.sourceEntries then { s with tx := { s.tx with src := s.tx.src ++ [b] } }
  else s.raise .forwardDropped

/-! ### Admission (R93 to R95) -/

/-- R95: the first frame admitted makes an ARMED route LIVE, with the release point D/4 before its sequence. -/
def Route.goLive (c : RouteConfig) (q : Seq) (t : Route) : Route :=
  if t.state = .armed then { t with state := .live, release := some (q - BitVec.ofNat 16 (c.depth / 4)) } else t

/-- R109: the frame's samples in stored form. -/
def storedData (bs : List Byte) : List Byte :=
  (storedPairs (audioStereo bs) (audioWide bs) (audioN bs) (audioPayload bs)).flatMap storedBytes

/-- R93 step 4, R95: a frame taken for placement. -/
def State.place (r : RouteId) (c : RouteConfig) (f : StoredFrame) (bs : List Byte) (s : State) : State :=
  let s := s.modRoute r (Route.goLive c f.seq)
  match (s.route r).release with
  | some rp => s.decidePlacement r c rp f (storedData bs)
  | none => s.releaseHand

/-- R96 to R99: a frame on a SOURCE route is stamped and forwarded, then taken for placement. -/
def State.stampAndPlace (r : RouteId) (c : RouteConfig) (m : TimelineMap) (e : IngressEntry) (s : State) : State :=
  let q := (s.route r).nextSeq.getD 0
  let n := audioN e.bytes
  let st := stampFor (c.lead.getD 0) (s.route r).lastStamp (audioRestart e.bytes) (m.convert e.stamp)
  let s := s.modRoute r (fun t => { t with nextSeq := some (q + 1), lastStamp := some (st.pt, n) })
  let s := if st.restamped then
      (s.bump r (fun k => { k with restamped := countUp k.restamped })).raise .restamped
    else s
  let s := s.offerSource (buildAudio s.pins.linkAddress e.bytes q st.pt st.restart)
  s.place r c { seq := q, pt := st.pt, n := n, restart := st.restart } e.bytes

/-- R93: the route unit decides the admission of a frame. -/
def State.admitFrame (r : RouteId) (c : RouteConfig) (e : IngressEntry) (s : State) : State :=
  if !(s.route r).taking then s.releaseHand
  else if (c.mode == .sink) != audioPtPresent e.bytes then
    (s.bump r (fun k => { k with misdirected := countUp k.misdirected })).releaseHand
  else if Config.pageSamples * c.slotPages < audioN e.bytes then
    ((s.bump r (fun k => { k with oversize := countUp k.oversize })).raise .frameOversize).releaseHand
  else
    match c.mode, (s.slot c.slot).map with
    | .sink, _ =>
      s.place r c
        { seq := audioSeq e.bytes, pt := audioPt e.bytes, n := audioN e.bytes, restart := audioRestart e.bytes } e.bytes
    | .source, some m => s.stampAndPlace r c m e
    | .source, none => s.releaseHand

/-! ### The dispatcher (R28 to R31) -/

/-- R29: a route in one of the states asked for that holds the stream ID. -/
def State.routeHolding (ok : Route → Bool) (stream : BitVec 16) (s : State) : Option (RouteId × RouteConfig) :=
  allRoutes.findSome? (fun r =>
    match (s.route r).config with
    | some c => if ok (s.route r) && c.stream == stream then some (r, c) else none
    | none => none)

/-- R29: an AUDIO frame whose lookup is made now. -/
def State.lookUpAudio (e : IngressEntry) (s : State) : State :=
  match s.routeHolding Route.taking (audioStream e.bytes) with
  | some (r, c) => s.admitFrame r c e
  | none =>
    match s.routeHolding (fun t => t.state == .draining) (audioStream e.bytes) with
    | some _ => s.releaseHand
    | none => (s.raise .streamUnknown).releaseHand

/-- R29, R93, R104: an AUDIO frame. Where a ROUTE-DISARM of the moment of the hand-off was taken after the lookup and before the
route unit's decision, the frame meets step 1 of R93: it is discarded with no count and no condition. -/
def State.dispatchAudio (e : IngressEntry) (s : State) : State := if e.disarmed then s.releaseHand else s.lookUpAudio e

/-- R30: the slot in use with the frame's tag; tag 0 matches none. -/
def State.slotTagged (tag : Byte) (s : State) : Option SlotId :=
  allSlots.find? (fun i => (s.slot i).inUse && (s.slot i).tag == tag)

/-- R30, R60, R61: a SOUNDING. -/
def State.dispatchSounding (e : IngressEntry) (s : State) : State :=
  match s.slotTagged (timingTag e.bytes) with
  | some i =>
    if (s.slot i).state = .leading then (s.answerSounding i e.stamp e.bytes).releaseHand else s.releaseHand
  | none => s.releaseHand

/-- R30, R61, R62: a RETURN. -/
def State.dispatchReturn (e : IngressEntry) (s : State) : State :=
  match s.slotTagged (timingTag e.bytes) with
  | some i => if (s.slot i).role = some .follower then s.takeReturn i e.stamp e.bytes else s.releaseHand
  | none => s.releaseHand

/-- R31: a REQUEST takes a place in the management queue, or is dropped. -/
def State.dispatchRequest (e : IngressEntry) (s : State) : State :=
  if s.mgmt.queue.length < Config.mgmtFrames then
    let f : MgmtFrame := { addressed := frameDest e.bytes != 15, bytes := e.bytes, copied := false }
    { s with mgmt := { s.mgmt with queue := s.mgmt.queue ++ [f] }, rx := { s.rx with hand := some .mgmtCopy } }
  else (s.raise .mgmtOverrun).releaseHand

/-- R28 step 7: the hand-off to the owner. -/
def State.handOver (e : IngressEntry) (s : State) : State :=
  match frameKindByte e.bytes with
  | 1 => s.dispatchAudio e
  | 2 => s.dispatchSounding e
  | 3 => s.dispatchReturn e
  | _ => s.dispatchRequest e

/-- R28: the checks of a COMPLETE frame, in order. -/
def State.checkFrame (e : IngressEntry) (s : State) : State :=
  let kind := frameKindByte e.bytes
  if e.bytes.length < 3 then (s.raise .frameMalformed).releaseHand
  else if frameDest e.bytes ≠ s.pins.linkAddress ∧ frameDest e.bytes ≠ 15 then s.releaseHand
  else if e.parityMark then (if kind = 4 then s.raise .mgmtDiscarded else s).releaseHand
  else if kind = 0 ∨ 5 < kind then (s.raise .frameMalformed).releaseHand
  else if kind = 5 then s.releaseHand
  else if bodyWellFormed e.bytes then s.handOver e
  else (s.raise .frameMalformed).releaseHand

/-- R8, R27: the dispatcher takes the oldest entry when it holds none and that entry is COMPLETE. -/
def State.dispatchOldest (s : State) : State :=
  match s.rx.hand, s.rx.ingress with
  | none, e :: _ => if e.phase = .complete then s.checkFrame e else s
  | _, _ => s

/-- R28: the frame passes steps 1 to 6 and is the route unit's. -/
def State.isRouteUnits (e : IngressEntry) (s : State) : Bool :=
  decide (3 ≤ e.bytes.length) && (frameDest e.bytes == s.pins.linkAddress || frameDest e.bytes == 15) && !e.parityMark
    && frameKindByte e.bytes == 1 && bodyWellFormed e.bytes

/-- R27, R104: a ROUTE-DISARM of the route is taken. A COMPLETE frame that has become the oldest is checked and looked up at once
(R27), so one that still waits for its DISPATCH is at its hand-off at this moment; where its lookup gives the route, the
disarm comes before the route unit's decision. DEDUCED (log entry 24). -/
def State.markHandOff (r : RouteId) (s : State) : State :=
  match s.rx.hand, s.rx.ingress with
  | none, e :: rest =>
    if e.phase = .complete ∧ s.isRouteUnits e
        ∧ (s.routeHolding Route.taking (audioStream e.bytes)).map (·.1) = some r then
      { s with rx := { s.rx with ingress := { e with disarmed := true } :: rest } }
    else s
  | _, _ => s

/-- R31: the copy ends: the frame belongs to the queue whole, its ingress entry is released. -/
def State.endCopy (s : State) : State :=
  if s.rx.hand = some .mgmtCopy then
    ({ s with mgmt := { s.mgmt with queue := s.mgmt.queue.map (fun f => { f with copied := true }) } } : State).releaseHand
  else s

/-- DISPATCH (R8, R20 to R31, R60 to R67, R75, R93 to R99, R117 to R119). -/
def execDispatch (now : Time) (s : State) : Host.Outcome State Fault Refusal := .next (s.actAt now State.dispatchOldest)

/-- MGMT_COPY_END (R31). -/
def execMgmtCopyEnd (s : State) : Host.Outcome State Fault Refusal := .next (s.act State.endCopy)

end Sys2Proof.Machine
end

