-- ==== Sys2Proof/Machine/Reports.lean ====
section
/-! DEFINITION. The data of DONE results (spec/11 section 11.2; R183 to R185, R69, R92, R101, R125, R126): every field a number
in bytes, most significant first; an absent field reads 0. -/

namespace Sys2Proof.Machine

/-- R184. -/
def State.identifyReport (s : State) : List Byte :=
  beBytes 2 Config.vendorCode ++ beBytes 2 Config.partCode ++
    [BitVec.ofNat 8 Config.revision, s.pins.linkAddress, s.pins.straps.setWidth 8, boolByte s.pins.aenpol]

/-- R185: a group slot in 30 bytes. -/
def GroupSlot.report (g : GroupSlot) : List Byte :=
  [g.tag, roleCode g.role, groupStateCode g.state, boolByte g.map.isSome] ++
    (match g.map with
      | some m => beBytes 6 m.al.toNat ++ beBytes 6 m.ag.toNat ++ beBytesInt 2 m.trim
      | none => beBytes 14 0) ++
    beBytesInt 4 g.integrator ++ beBytes 2 g.insideRun ++ beBytes 2 g.outsideRun ++ beBytes 2 g.lost
      ++ beBytes 2 g.answered

/-- The release point in a report: present, and the sequence (R183). -/
def releaseReport (rp : Option Seq) : List Byte :=
  match rp with
  | some q => [1] ++ beBytes 2 q.toNat
  | none => [0, 0, 0]

/-- R185: a route in 8 bytes. -/
def Route.report (t : Route) : List Byte :=
  [routeStateCode t.state] ++
    (match t.config with
      | some c => beBytes 2 c.stream.toNat ++ [BitVec.ofNat 8 c.slot.val, routeModeCode c.mode]
      | none => [0, 0, 0, 0]) ++
    releaseReport t.release

/-- R185: a lane in 3 bytes. -/
def Lane.report (l : Lane) : List Byte := [laneStateCode l.state, routeCode l.route, boolByte l.staged.isSome]

/-- R185: the 207 bytes of STATUS. Of the last byte the spec gives bits 0 and 1 alone. DESIGN CHOICE (log entry 26): its bits
2 to 7 are reported as 0. -/
def State.statusReport (s : State) : List Byte :=
  beBytes 4 s.cond.present.toNat ++ beBytes 4 s.cond.mask.toNat
    ++ [timebaseStateCode s.time.state, boolByte s.time.selectRefin]
    ++ allSlots.flatMap (fun i => (s.slot i).report)
    ++ allRoutes.flatMap (fun r => (s.route r).report)
    ++ allLanes.flatMap (fun i => (s.lane i).report)
    ++ [boolByte (s.input 0).latch ||| (boolByte (s.input 1).latch <<< 1)]

/-- R69: the 16 bytes of GROUP-MEASURE. -/
def GroupSlot.measureReport (g : GroupSlot) : List Byte :=
  match g.lastResult with
  | some r => [1, boolByte g.ready] ++ beBytesInt 4 r.e ++ beBytes 6 r.p ++ beBytes 2 r.n ++ beBytes 2 r.rejected
  | none => [0, boolByte g.ready] ++ beBytes 14 0

/-- Section 11.2: the 9 bytes of ROUTE-ARM; the lead of a SINK route reads 0 (R183). -/
def RouteConfig.armReport (c : RouteConfig) : List Byte :=
  beBytes 2 c.firstPage ++ [BitVec.ofNat 8 c.depth, BitVec.ofNat 8 c.slotPages, BitVec.ofNat 8 c.concealLimit]
    ++ beBytes 4 (c.lead.getD 0)

/-- R101: the eight counters, 2 bytes each. -/
def RouteCounters.report (k : RouteCounters) : List Byte :=
  [k.accepted, k.duplicate, k.late, k.ahead, k.oversize, k.misdirected, k.concealed, k.restamped].flatMap (beBytes 2)

/-- R125: an entry of a SLOT-PEEK report in 15 bytes. -/
def peekEntry (c : RouteConfig) (index : Nat) (e : DirEntry) : List Byte :=
  [BitVec.ofNat 8 index] ++
    (match e with
      | .invalid => [0] ++ beBytes 13 0
      | .inPlacement q => [1] ++ beBytes 2 q.toNat ++ beBytes 11 0
      | .valid f =>
        [2] ++ beBytes 2 f.seq.toNat ++ beBytes 6 f.pt.toNat ++ beBytes 2 f.n ++ [boolByte f.restart]
          ++ beBytes 2 (entryPage c index 0))

/-- R125: the copy of `count` entries from `first` on. -/
def Route.peekReport (t : Route) (c : RouteConfig) (first count : Nat) : List Byte :=
  [routeStateCode t.state, BitVec.ofNat 8 c.depth, BitVec.ofNat 8 c.slotPages] ++ beBytes 2 c.firstPage
    ++ releaseReport t.release ++ [BitVec.ofNat 8 count]
    ++ (List.range count).flatMap (fun k => peekEntry c (first + k) (t.dir.getD (first + k) .invalid))

/-- R126: the runs of `count` pages from `first` on. -/
def State.pageRunsReport (first count : Nat) (s : State) : List Byte :=
  let runs := pageRunsOf ((s.store.pages.drop first).take count) first
  [BitVec.ofNat 8 runs.length]
    ++ runs.flatMap (fun x => beBytes 2 x.1 ++ beBytes 2 x.2.1 ++ [routeCode x.2.2])

end Sys2Proof.Machine
end

