-- ==== Sys2Proof/Machine/EngineRequests.lean ====
section
/-! DEFINITION. The management commands that concern the engine, the conditions, the timebase and the part as a whole
(spec/11 sections 11.1, 11.2, 11.4). Each request's body acts on the operands of the item in execution, its code, length and
the reply's room having been judged by `State.runItem` (R180). -/

namespace Sys2Proof.Machine

/-- MGMT_FRAME_BEGIN (R178). -/
def execMgmtFrameBegin (s : State) : Host.Outcome State Fault Refusal := .next (s.act State.beginFrame)

/-- R180, test 1: an item whose code names no request. -/
def State.refuseUnknown (s : State) : State :=
  match s.mgmt.phase, s.mgmt.todo with
  | .running, item :: _ => if knownCode item.code then s else s.finishItem .unknownRequest []
  | _, _ => s

/-- UNKNOWN_REQUEST (R24, R179 to R181). -/
def execUnknownRequest (s : State) : Host.Outcome State Fault Refusal := .next (s.act State.refuseUnknown)

/-- R184. -/
def identifyItem (_ops : List Byte) (s : State) : State := s.finishItem .done s.identifyReport

/-- IDENTIFY (R179 to R181, R184). -/
def execIdentify (s : State) : Host.Outcome State Fault Refusal := .next (s.act (State.runItem .identify identifyItem))

/-- R185. -/
def statusItem (_ops : List Byte) (s : State) : State := s.finishItem .done s.statusReport

/-- STATUS (R179 to R181, R183, R185). -/
def execStatus (s : State) : Host.Outcome State Fault Refusal := .next (s.act (State.runItem .status statusItem))

/-- R186: the named conditions become absent; naming SENSE0 or SENSE1 clears that input's latch. -/
def State.clearNamed (named : BitVec 32) (s : State) : State :=
  let s := s.clearConditions named
  let s := if named.getLsbD (Condition.bit .sense0) then s.clearLatch 0 else s
  if named.getLsbD (Condition.bit .sense1) then s.clearLatch 1 else s

/-- R186, on the item's operands. -/
def conditionsClearItem (ops : List Byte) (s : State) : State := (s.clearNamed (conditionOperand ops)).finishItem .done []

/-- CONDITIONS_CLEAR (R176, R179 to R181, R186, R192). -/
def execConditionsClear (s : State) : Host.Outcome State Fault Refusal :=
  .next (s.act (State.runItem .conditionsClear conditionsClearItem))

/-- R187. -/
def conditionsMaskItem (ops : List Byte) (s : State) : State := (s.setMask (conditionOperand ops)).finishItem .done []

/-- CONDITIONS_MASK (R179 to R181, R187, R192). -/
def execConditionsMask (s : State) : Host.Outcome State Fault Refusal :=
  .next (s.act (State.runItem .conditionsMask conditionsMaskItem))

/-- R37: the state that a selection leads to. -/
def TimebaseState.select (refin : Bool) (t : TimebaseState) : TimebaseState :=
  match t, refin with
  | _, false => .xo
  | .xo, true => .pending
  | t, true => t

/-- R37: software selects the count source. -/
def State.selectSource (refin : Bool) (s : State) : State :=
  { s with time := { s.time with state := s.time.state.select refin, selectRefin := refin } }

/-- R188: 0 selects XO, any other value REFIN. -/
def timebaseSelectItem (ops : List Byte) (s : State) : State := (s.selectSource (byteAt ops 0 != 0)).finishItem .done []

/-- TIMEBASE_SELECT (R33, R37, R179 to R181, R188). -/
def execTimebaseSelect (s : State) : Host.Outcome State Fault Refusal :=
  .next (s.act (State.runItem .timebaseSelect timebaseSelectItem))

/-- R176, R191: an input's action is written; NONE clears its latch. -/
def SenseInput.setAction (a : SenseAction) (x : SenseInput) : SenseInput :=
  { x with action := a, latch := if a = .none then false else x.latch }

/-- R191. -/
def senseActionItem (ops : List Byte) (s : State) : State :=
  match senseActionOf (byteAt ops 0), senseActionOf (byteAt ops 1) with
  | some a, some b =>
    ((s.setInput 0 ((s.input 0).setAction a)).setInput 1 ((s.input 1).setAction b)).finishItem .done []
  | _, _ => s.finishItem .refusedIndex []

/-- SENSE_ACTION (R176, R179 to R181, R191). -/
def execSenseAction (s : State) : Host.Outcome State Fault Refusal :=
  .next (s.act (State.runItem .senseAction senseActionItem))

/-- R193: the reply with the DONE of a DEVICE-RESET is offered; the engine waits in RESET_WAIT, the frame keeping its place. -/
def State.awaitReset (f : MgmtFrame) (item : Item) (s : State) : State :=
  let results := s.mgmt.results ++ [itemResult item.code .done []]
  let s := s.offerReply f results
  { s with mgmt := { s.mgmt with phase := .resetWait, todo := [], results := results } }

/-- R193: only the last item of a list resets: at once in a broadcast frame, at the end of the reply in an addressed one. -/
def deviceResetItem (_ops : List Byte) (s : State) : State :=
  match s.mgmt.todo, s.frameInHand with
  | [item], some f => if f.addressed then s.awaitReset f item else s.deviceReset
  | _, _ => s.finishItem .refusedState []

/-- DEVICE_RESET (R9, R18, R32, R39, R51, R107, R127, R151, R171, R174, R179 to R181, R193, R194). -/
def execDeviceReset (s : State) : Host.Outcome State Fault Refusal :=
  .next (s.act (State.runItem .deviceReset deviceResetItem))

end Sys2Proof.Machine
end

