-- ==== Sys2Proof/Machine/GroupRequests.lean ====
section
/-! DEFINITION. GROUP-SET, GROUP-CLEAR, GROUP-SOUND and GROUP-MEASURE (spec/03 section 3.5, spec/04 R52 to R54, R59, R69). -/

namespace Sys2Proof.Machine

/-! ### GROUP-SET (R45 to R49) -/

/-- R46: a leader slot created at the counter value `now`. -/
def GroupSlot.newLeader (tag : Byte) (c : SlotConfig) (now : Time) : GroupSlot :=
  { GroupSlot.unused with
    tag := tag, role := some .leader, config := some c, state := .leading, map := some (TimelineMap.identity now) }

/-- R46: a follower slot created in ACQUIRE. -/
def GroupSlot.newFollower (tag : Byte) (c : SlotConfig) : GroupSlot :=
  { GroupSlot.unused with tag := tag, role := some .follower, config := some c, state := .acquire }

/-- R47: the configuration rewritten, the filter restarted, the rest kept. -/
def GroupSlot.rewrite (c : SlotConfig) (g : GroupSlot) : GroupSlot := { g.restartFilter with config := some c }

/-- R48: from LEADER to FOLLOWER: the map kept, the state TRACK. -/
def GroupSlot.toFollower (c : SlotConfig) (g : GroupSlot) : GroupSlot :=
  { (g.rewrite c).enterState .track with
    role := some .follower, integrator := 0, history := [], lost := 0, record := none, streamDue := none }

/-- R49: from FOLLOWER to LEADER at the counter value `now`: the timeline goes on from its value there, at trim 0. -/
def GroupSlot.toLeader (c : SlotConfig) (now : Time) (g : GroupSlot) : GroupSlot :=
  { (g.rewrite c).enterState .leading with
    role := some .leader
    map := some (match g.map with
      | some m => m.reanchor now 0 0
      | none => TimelineMap.identity now)
    integrator := 0, history := [], lost := 0, record := none, streamDue := none }

/-- R105: a SOURCE route of the slot becomes a SINK route; its stamp record and lead are discarded. -/
def Route.turnToSink (i : SlotId) (t : Route) : Route :=
  match t.config with
  | some c =>
    if c.slot = i ∧ c.mode = .source then
      { t with config := some { c with mode := .sink, lead := none }, nextSeq := none, lastStamp := none }
    else t
  | none => t

/-- R48, R89, R105: every SOURCE route of the slot. -/
def State.turnRoutes (i : SlotId) (s : State) : State := { s with routes := s.routes.map (Route.turnToSink i) }

/-- The slot is a follower in STREAM mode. -/
def GroupSlot.streaming (g : GroupSlot) : Bool :=
  match g.role, g.config with
  | some .follower, some c => c.mode == .stream
  | _, _ => false

/-- R53: a follower slot that has just entered STREAM mode sounds at once if it holds no record; one that is not in STREAM
mode keeps no armed due event; one that stays in it keeps its schedule. -/
def State.reschedule (i : SlotId) (was : Bool) (s : State) : State :=
  if (s.slot i).streaming then
    if was ∨ (s.slot i).record.isSome then s else s.soundingDue i
  else s.modSlot i (fun g => { g with streamDue := none })

/-- R46 to R49: what a GROUP-SET that passes its checks does, by the slot's role. -/
def State.applyGroupSet (i : SlotId) (tag : Byte) (role : Role) (c : SlotConfig) (s : State) : State :=
  let g := s.slot i
  match g.role, role with
  | none, .leader => s.setSlot i (GroupSlot.newLeader tag c s.time.lmc)
  | none, .follower => (s.setSlot i (GroupSlot.newFollower tag c)).reschedule i false
  | some .leader, .leader => s.setSlot i (g.rewrite c)
  | some .follower, .follower => (s.setSlot i (g.rewrite c)).reschedule i g.streaming
  | some .leader, .follower => ((s.setSlot i (g.toFollower c)).turnRoutes i).reschedule i false
  | some .follower, .leader => (s.withdrawSounding i).setSlot i (g.toLeader c s.time.lmc)

/-- R45: some other slot holds the tag. -/
def State.tagElsewhere (i : SlotId) (tag : Byte) (s : State) : Bool :=
  allSlots.any (fun j => j != i && (s.slot j).tag == tag)

/-- R45: the checks of GROUP-SET in order, then its effect. -/
def groupSetItem (ops : List Byte) (s : State) : State :=
  match groupSetHead ops with
  | none => s.finishItem .refusedIndex []
  | some h =>
    if s.tagElsewhere h.slot h.tag then s.finishItem .refusedInUse []
    else if (s.slot h.slot).inUse ∧ (s.slot h.slot).tag ≠ h.tag then s.finishItem .refusedState []
    else (s.applyGroupSet h.slot h.tag h.role (groupSetConfig ops)).finishItem .done []

/-- GROUP_SET (R41, R43 to R49, R52, R53, R55, R59, R82, R85 to R87, R89, R105, R106, R179 to R181). -/
def execGroupSet (now : Time) (s : State) : Host.Outcome State Fault Refusal :=
  .next (s.actAt now (State.runItem .groupSet groupSetItem))

/-! ### GROUP-CLEAR (R50) -/

/-- R50: some route on the slot is not FREE. -/
def State.slotRouted (i : SlotId) (s : State) : Bool :=
  allRoutes.any (fun r =>
    match (s.route r).config with
    | some c => (s.route r).state != .free && c.slot == i
    | none => false)

/-- R50: the slot is not in use again; on a slot already so, nothing changes. -/
def State.clearSlot (i : SlotId) (s : State) : State :=
  if (s.slot i).inUse then (s.withdrawSounding i).setSlot i GroupSlot.unused else s

/-- R50. -/
def groupClearItem (ops : List Byte) (s : State) : State :=
  match slotOf (byteAt ops 0) with
  | none => s.finishItem .refusedIndex []
  | some i => if s.slotRouted i then s.finishItem .refusedInUse [] else (s.clearSlot i).finishItem .done []

/-- GROUP_CLEAR (R12, R50, R51, R59, R86, R179 to R181). -/
def execGroupClear (s : State) : Host.Outcome State Fault Refusal :=
  .next (s.act (State.runItem .groupClear groupClearItem))

/-! ### GROUP-SOUND (R54) -/

/-- R54: the slot is a follower in ONCE mode. -/
def GroupSlot.soundsOnce (g : GroupSlot) : Bool :=
  match g.role, g.config with
  | some .follower, some c => c.mode == .once
  | _, _ => false

/-- R54. -/
def groupSoundItem (ops : List Byte) (s : State) : State :=
  match slotOf (byteAt ops 0) with
  | none => s.finishItem .refusedIndex []
  | some i => if (s.slot i).soundsOnce then (s.soundingDue i).finishItem .done [] else s.finishItem .refusedState []

/-- GROUP_SOUND (R54 to R56, R58, R179 to R181). -/
def execGroupSound (s : State) : Host.Outcome State Fault Refusal :=
  .next (s.act (State.runItem .groupSound groupSoundItem))

/-! ### GROUP-MEASURE (R69) -/

/-- R69: the last result is reported with the ready flag as it stood; the flag is then clear. -/
def groupMeasureItem (ops : List Byte) (s : State) : State :=
  match slotOf (byteAt ops 0) with
  | none => s.finishItem .refusedIndex []
  | some i => (s.modSlot i (fun g => { g with ready := false })).finishItem .done (s.slot i).measureReport

/-- GROUP_MEASURE (R69, R179 to R181, R183). -/
def execGroupMeasure (s : State) : Host.Outcome State Fault Refusal :=
  .next (s.act (State.runItem .groupMeasure groupMeasureItem))

end Sys2Proof.Machine
end

