-- ==== Sys2Proof/Machine/LaneRequests.lean ====
section
/-! DEFINITION. LANE-BIND, LANE-GAIN, LANE-UNBIND and the end of a lane wait (spec/08 R129, spec/09 R161, R164, spec/11 R182,
R189, R190). -/

namespace Sys2Proof.Machine

/-- R182: the engine waits for the lane's staged change. -/
def State.awaitLane (i : LaneId) (s : State) : State := { s with mgmt := { s.mgmt with phase := .laneWait i } }

/-- R189: the check of LANE-BIND that follows the wait, then its effect. -/
def State.bindChecked (i : LaneId) (r : RouteId) (v : Settings) (s : State) : State :=
  if (s.route r).taking then (s.applyBinding i v).finishItem .done [] else s.finishItem .refusedState []

/-- R189: a LANE-BIND past its index checks: it waits for a staged change of the lane. -/
def laneBindItem (ops : List Byte) (s : State) : State :=
  match laneBindOperands ops with
  | none => s.finishItem .refusedIndex []
  | some (i, r, v) => if (s.lane i).staged.isSome then s.awaitLane i else s.bindChecked i r v

/-- LANE_BIND (R129, R135, R161, R173, R179 to R182, R189). -/
def execLaneBind (now : Time) (s : State) : Host.Outcome State Fault Refusal :=
  .next (s.actAt now (State.runItem .laneBind laneBindItem))

/-- R189: LANE-GAIN. -/
def laneGainItem (ops : List Byte) (s : State) : State :=
  match laneGainOperands ops with
  | none => s.finishItem .refusedIndex []
  | some (i, v) => if (s.lane i).staged.isSome then s.awaitLane i else (s.applyBinding i v).finishItem .done []

/-- LANE_GAIN (R161, R179 to R182, R189). -/
def execLaneGain (s : State) : Host.Outcome State Fault Refusal :=
  .next (s.act (State.runItem .laneGain laneGainItem))

/-- R182: the wait ends when the lane holds no staged change; the item's remaining checks are made against the part as it
then stands. -/
def State.endLaneWait (s : State) : State :=
  match s.mgmt.phase, s.mgmt.todo with
  | .laneWait i, item :: _ =>
    if (s.lane i).staged.isSome then s
    else
      let s : State := { s with mgmt := { s.mgmt with phase := .running } }
      if item.code = Request.code .laneBind then laneBindItem item.operands s else laneGainItem item.operands s
  | _, _ => s

/-- LANE_WAIT_END (R129, R135, R161, R173, R179, R181, R182, R189). -/
def execLaneWaitEnd (now : Time) (s : State) : Host.Outcome State Fault Refusal := .next (s.actAt now State.endLaneWait)

/-- R190. -/
def laneUnbindItem (ops : List Byte) (s : State) : State :=
  match laneOf (byteAt ops 0) with
  | none => s.finishItem .refusedIndex []
  | some i => (s.unbindLane i).finishItem .done []

/-- LANE_UNBIND (R115, R129, R135, R140, R164, R173, R179 to R181, R190). -/
def execLaneUnbind (now : Time) (s : State) : Host.Outcome State Fault Refusal :=
  .next (s.actAt now (State.runItem .laneUnbind laneUnbindItem))

end Sys2Proof.Machine
end

