-- ==== Sys2Proof/Machine/Link.lean ====
section
/-! DEFINITION. The link receiver (R1 to R7, R19) and the commands of a word's arrival. -/

namespace Sys2Proof.Machine

/-- The entry in reception, if any. -/
def State.receiving (s : State) : Option IngressEntry := s.rx.ingress.find? (fun e => e.phase == .receiving)

/-- The entry in reception is changed. -/
def State.modReceiving (f : IngressEntry → IngressEntry) (s : State) : State :=
  { s with rx := { s.rx with ingress := s.rx.ingress.map (fun e => if e.phase = .receiving then f e else e) } }

/-- R7: the frame in reception is abandoned: its entry is released and the receiver enters OUTSIDE. -/
def State.abandonReception (s : State) : State :=
  { s with rx := { s.rx with inside := false, ingress := s.rx.ingress.filter (fun e => e.phase != .receiving) } }

/-- R2, R5, R6: an SOF in OUTSIDE claims an entry with its arrival stamp, or drops the frame. -/
def State.claimEntry (s : State) : State :=
  if s.rx.ingress.length < Config.ingressEntries then
    let e : IngressEntry := { phase := .receiving, stamp := s.time.lmc, bytes := [], parityMark := false }
    { s with rx := { s.rx with inside := true, ingress := s.rx.ingress ++ [e] } }
  else s.raise .ingressOverrun

/-- R2, R3: an SOF. -/
def State.receiveSof (s : State) : State :=
  if s.rx.inside then ((s.raise .frameAborted).abandonReception).claimEntry else s.claimEntry

/-- R3, R4: a data byte, or a word of bad parity taken as one. -/
def State.receiveByte (b : Byte) (bad : Bool) (s : State) : State :=
  if s.rx.inside then
    match s.receiving with
    | some e =>
      if Config.maxFrameBytes ≤ e.bytes.length then (s.raise .frameMalformed).abandonReception
      else s.modReceiving (fun e => { e with bytes := e.bytes ++ [b], parityMark := e.parityMark || bad })
    | none => s
  else s

/-- R2, R3: an EOF. -/
def State.receiveEof (s : State) : State :=
  if s.rx.inside then
    let s := s.modReceiving (fun e => { e with phase := .complete })
    { s with rx := { s.rx with inside := false } }
  else s

/-- R2, R3: an ABT. -/
def State.receiveAbt (s : State) : State :=
  if s.rx.inside then (s.raise .frameAborted).abandonReception else s

/-- R2, R3: a bad code. -/
def State.receiveBadCode (s : State) : State :=
  let s := s.raise .linkCode
  if s.rx.inside then s.abandonReception else s

/-- R1, R19: a word arrives: its parity decides first, then its control flag and code. -/
def State.receiveWord (w : LinkWord) (s : State) : State :=
  if goodParity w then
    match wordKind w with
    | .data => s.receiveByte (wordByte w) false
    | .idle => s
    | .sof => s.receiveSof
    | .eof => s.receiveEof
    | .abt => s.receiveAbt
    | .badCode => s.receiveBadCode
  else (s.raise .linkParity).receiveByte (wordByte w) true

/-- SOF_ARRIVAL (R1 to R6). -/
def execSofArrival (now : Time) (parity : Bool) (s : State) : Host.Outcome State Fault Refusal :=
  .next (s.actAt now (State.receiveWord (controlWord parity 0xA5)))

/-- DATA_BYTE_ARRIVAL (R1 to R4). -/
def execDataByteArrival (word : LinkWord) (s : State) : Host.Outcome State Fault Refusal :=
  .next (s.act (State.receiveWord word))

/-- EOF_ARRIVAL (R1 to R3). -/
def execEofArrival (parity : Bool) (s : State) : Host.Outcome State Fault Refusal :=
  .next (s.act (State.receiveWord (controlWord parity 0x5A)))

/-- ABT_ARRIVAL (R1 to R3). -/
def execAbtArrival (parity : Bool) (s : State) : Host.Outcome State Fault Refusal :=
  .next (s.act (State.receiveWord (controlWord parity 0xF0)))

/-- BAD_CODE_ARRIVAL (R1 to R3, R19). -/
def execBadCodeArrival (parity : Bool) (code : Byte) (s : State) : Host.Outcome State Fault Refusal :=
  .next (s.act (State.receiveWord (controlWord parity code)))

/-- IDLE_ARRIVAL (R1 to R3). -/
def execIdleArrival (parity : Bool) (s : State) : Host.Outcome State Fault Refusal :=
  .next (s.act (State.receiveWord (controlWord parity 0x3C)))

end Sys2Proof.Machine
end

