-- ==== Sys2Proof/Machine/RouteRequests.lean ====
section
/-! DEFINITION. ROUTE-ARM, ROUTE-DISARM, ROUTE-COUNTS, SLOT-PEEK with its grant, and PAGE-RUNS (spec/06 R90 to R92, R101, R102;
spec/07 R110, R111, R122, R125, R126). -/

namespace Sys2Proof.Machine

/-- R89, R90: another route that is not FREE holds the stream ID. -/
def State.streamElsewhere (r : RouteId) (stream : BitVec 16) (s : State) : Bool :=
  allRoutes.any (fun q =>
    match (s.route q).config with
    | some c => q != r && (s.route q).state != .free && c.stream == stream
    | none => false)

/-- R92: the values a route takes when it is armed. -/
def Route.armed (c : RouteConfig) : Route :=
  { state := .armed, config := some c, release := none
    nextSeq := if c.mode = .source then some 0 else none
    lastStamp := none, counters := RouteCounters.zero, dir := List.replicate c.depth .invalid }

/-- R92, R110, R111: the route takes its run of pages from `c.firstPage` on and is ARMED. -/
def State.armRoute (r : RouteId) (c : RouteConfig) (s : State) : State :=
  (s.ownPages c.firstPage (c.depth * c.slotPages) (some r)).setRoute r (Route.armed c)

/-- R90: the checks of ROUTE-ARM in order, the space check last. -/
def routeArmItem (ops : List Byte) (s : State) : State :=
  match routeArmOperands ops with
  | none => s.finishItem .refusedIndex []
  | some (r, c) =>
    if (s.route r).state ≠ .free then s.finishItem .refusedState []
    else if !(s.slot c.slot).inUse then s.finishItem .refusedState []
    else if c.mode = .source ∧ (s.slot c.slot).state ≠ .leading then s.finishItem .refusedState []
    else if s.streamElsewhere r c.stream then s.finishItem .refusedInUse []
    else
      match firstFit (c.depth * c.slotPages) s.store.pages 0 0 with
      | none => s.finishItem .refusedSpace []
      | some p =>
        let c := { c with firstPage := p }
        (s.armRoute r c).finishItem .done c.armReport

/-- ROUTE_ARM (R89 to R92, R110, R111, R116, R179 to R181). -/
def execRouteArm (s : State) : Host.Outcome State Fault Refusal :=
  .next (s.act (State.runItem .routeArm routeArmItem))

/-- R102, R104. -/
def routeDisarmItem (ops : List Byte) (s : State) : State :=
  match routeOf (byteAt ops 0) with
  | none => s.finishItem .refusedIndex []
  | some r => ((s.markHandOff r).disarm r).finishItem .done []

/-- ROUTE_DISARM (R27, R29, R102 to R104, R110, R112, R115, R135, R140, R165, R173, R179 to R181). -/
def execRouteDisarm (now : Time) (s : State) : Host.Outcome State Fault Refusal :=
  .next (s.actAt now (State.runItem .routeDisarm routeDisarmItem))

/-- R101: the counters are reported as they stand; a clear option other than 0 then sets all eight to 0. -/
def routeCountsItem (ops : List Byte) (s : State) : State :=
  match routeOf (byteAt ops 0) with
  | none => s.finishItem .refusedIndex []
  | some r =>
    let cleared := if byteAt ops 1 = 0 then s else s.bump r (fun _ => RouteCounters.zero)
    cleared.finishItem .done (s.route r).counters.report

/-- ROUTE_COUNTS (R101, R179 to R181, R183). -/
def execRouteCounts (s : State) : Host.Outcome State Fault Refusal :=
  .next (s.act (State.runItem .routeCounts routeCountsItem))

/-- R125, R182: SLOT-PEEK on a FREE route completes; on any other the engine waits for the grant. -/
def slotPeekItem (ops : List Byte) (s : State) : State :=
  match routeOf (byteAt ops 0) with
  | none => s.finishItem .refusedIndex []
  | some r =>
    match (s.route r).state, (s.route r).config with
    | .free, _ | _, none => s.finishItem .done peekFreeReport
    | _, some c =>
      let range := peekRange c.depth (fieldAt ops 1 1) (fieldAt ops 2 1)
      { s with mgmt := { s.mgmt with phase := .storeWait r range.1 range.2 } }

/-- SLOT_PEEK (R122, R125, R179 to R183). -/
def execSlotPeek (s : State) : Host.Outcome State Fault Refusal :=
  .next (s.act (State.runItem .slotPeek slotPeekItem))

/-- R122, R125: the arbiter grants a waiting SLOT-PEEK when the memory is free and nobody of higher rank waits: the copy is
taken at this moment, its burst begins, and the request completes. -/
def State.grantPeek (s : State) : State :=
  match s.mgmt.phase with
  | .storeWait r first count =>
    if s.peekMayRun then
      match (s.route r).config with
      | some c =>
        ({ s with store := { s.store with burst := some .peek } } : State).finishItem .done
          ((s.route r).peekReport c first count)
      | none => s
    else s
  | _ => s

/-- SLOT_PEEK_GRANT (R121, R122, R125, R179, R181 to R183). A placement whose last burst has ended may be settled before the
grant, by PLACEMENT_COMPLETE, or after it (R125). -/
def execSlotPeekGrant (s : State) : Host.Outcome State Fault Refusal := .next (s.actUnplaced State.grantPeek)

/-- R126. -/
def pageRunsItem (ops : List Byte) (s : State) : State :=
  let range := pageRange (fieldAt ops 0 2) (fieldAt ops 2 1)
  s.finishItem .done (s.pageRunsReport range.1 range.2)

/-- PAGE_RUNS (R126, R179 to R181, R183). -/
def execPageRuns (s : State) : Host.Outcome State Fault Refusal :=
  .next (s.act (State.runItem .pageRuns pageRunsItem))

end Sys2Proof.Machine
end

