-- ==== Sys2Proof/Machine/Dispatch.lean ====
section
/-! DEFINITION. The meaning of every command: one arm for each constructor of `Instr`, each one call. -/

namespace Sys2Proof.Machine

def exec (i : Instr) (s : State) : Host.Outcome State Fault Refusal :=
  match i with
  | .powerOnReset => Sys2Proof.Machine.execPowerOnReset s
  | .rstnRelease adr aenpol => Sys2Proof.Machine.execRstnRelease adr aenpol s
  | .sofArrival now parity => Sys2Proof.Machine.execSofArrival now parity s
  | .dataByteArrival word => Sys2Proof.Machine.execDataByteArrival word s
  | .eofArrival parity => Sys2Proof.Machine.execEofArrival parity s
  | .abtArrival parity => Sys2Proof.Machine.execAbtArrival parity s
  | .badCodeArrival parity code => Sys2Proof.Machine.execBadCodeArrival parity code s
  | .idleArrival parity => Sys2Proof.Machine.execIdleArrival parity s
  | .dispatch now => Sys2Proof.Machine.execDispatch now s
  | .filterBlockComplete slot => Sys2Proof.Machine.execFilterBlockComplete slot s
  | .mgmtCopyEnd => Sys2Proof.Machine.execMgmtCopyEnd s
  | .storeBurstEnd => Sys2Proof.Machine.execStoreBurstEnd s
  | .placementComplete => Sys2Proof.Machine.execPlacementComplete s
  | .departureStart now => Sys2Proof.Machine.execDepartureStart now s
  | .departureEnd => Sys2Proof.Machine.execDepartureEnd s
  | .txholdAssert => Sys2Proof.Machine.execTxholdAssert s
  | .txholdRelease => Sys2Proof.Machine.execTxholdRelease s
  | .outputInstant now sns0 sns1 senseFirst => Sys2Proof.Machine.execOutputInstant now sns0 sns1 senseFirst s
  | .rampInEnd lane => Sys2Proof.Machine.execRampInEnd lane s
  | .rampEnd lane => Sys2Proof.Machine.execRampEnd lane s
  | .ampHoldExpiry now lane => Sys2Proof.Machine.execAmpHoldExpiry now lane s
  | .senseAccept input => Sys2Proof.Machine.execSenseAccept input s
  | .monitorWindowEnd edges => Sys2Proof.Machine.execMonitorWindowEnd edges s
  | .tickDue now order => Sys2Proof.Machine.execTickDue now order s
  | .streamDue now slot => Sys2Proof.Machine.execStreamDue now slot s
  | .soundingTimeout now slot => Sys2Proof.Machine.execSoundingTimeout now slot s
  | .holdoverEntered slot => Sys2Proof.Machine.execHoldoverEntered slot s
  | .leaderLost slot => Sys2Proof.Machine.execLeaderLost slot s
  | .mgmtFrameBegin => Sys2Proof.Machine.execMgmtFrameBegin s
  | .unknownRequest => Sys2Proof.Machine.execUnknownRequest s
  | .identify => Sys2Proof.Machine.execIdentify s
  | .status => Sys2Proof.Machine.execStatus s
  | .conditionsClear => Sys2Proof.Machine.execConditionsClear s
  | .conditionsMask => Sys2Proof.Machine.execConditionsMask s
  | .timebaseSelect => Sys2Proof.Machine.execTimebaseSelect s
  | .groupSet now => Sys2Proof.Machine.execGroupSet now s
  | .groupClear => Sys2Proof.Machine.execGroupClear s
  | .groupSound => Sys2Proof.Machine.execGroupSound s
  | .groupMeasure => Sys2Proof.Machine.execGroupMeasure s
  | .routeArm => Sys2Proof.Machine.execRouteArm s
  | .routeDisarm now => Sys2Proof.Machine.execRouteDisarm now s
  | .routeCounts => Sys2Proof.Machine.execRouteCounts s
  | .laneBind now => Sys2Proof.Machine.execLaneBind now s
  | .laneWaitEnd now => Sys2Proof.Machine.execLaneWaitEnd now s
  | .laneUnbind now => Sys2Proof.Machine.execLaneUnbind now s
  | .laneGain => Sys2Proof.Machine.execLaneGain s
  | .senseAction => Sys2Proof.Machine.execSenseAction s
  | .slotPeek => Sys2Proof.Machine.execSlotPeek s
  | .slotPeekGrant => Sys2Proof.Machine.execSlotPeekGrant s
  | .pageRuns => Sys2Proof.Machine.execPageRuns s
  | .deviceReset => Sys2Proof.Machine.execDeviceReset s

end Sys2Proof.Machine
end

