-- ==== Sys2Proof/Safety.lean ====
section
/-! DEFINITION. What every state of the part keeps: the laws the spec lays down, as predicates on one state. No law speaks of
reachability; the statements that a step keeps them stand in Certificates/Slice0/Obligations.lean. -/

namespace Sys2Proof.Safety

open Sys2Proof.Machine

/-! ### When a command completes -/

/-- The part is out of reset and owes no follow-up act. -/
structure Ready (s : State) : Prop where
  released : s.pins.inReset = false
  quiet : s.quiet = true

/-- R178 to R180: the engine executes an item that names the request and passes the tests of length and of the reply's room. -/
structure Executing (q : Request) (ops : List Byte) (rest : List Item) (s : State) : Prop where
  ready : Ready s
  running : s.mgmt.phase = .running
  item : s.mgmt.todo = { code := q.code, operands := ops } :: rest
  length : ops.length = q.operandLength
  room : s.replyFits q = true

/-- R8, R28: the dispatcher holds no frame, and the oldest entry is COMPLETE. -/
structure AtHead (e : IngressEntry) (rest : List IngressEntry) (s : State) : Prop where
  ready : Ready s
  hand : s.rx.hand = none
  oldest : s.rx.ingress = e :: rest
  complete : e.phase = .complete

/-- R28: the entry passes the dispatcher's steps 1 to 6. -/
structure Passes (e : IngressEntry) (s : State) : Prop where
  header : 3 ≤ e.bytes.length
  addressed : frameDest e.bytes = s.pins.linkAddress ∨ frameDest e.bytes = 15
  undamaged : e.parityMark = false
  body : bodyWellFormed e.bytes = true

/-- R7, R27: the oldest entry released, the rest of the queue as given. -/
def released (rest : List IngressEntry) (s : State) : State :=
  { s with rx := { s.rx with ingress := rest, hand := none } }

/-- R34: the counter value is a multiple of 512 whose output instant has not been taken. -/
structure InstantDue (now : Time) (s : State) : Prop where
  multiple : now.toNat % 512 = 0
  fresh : now ≠ s.time.lmc ∨ s.time.instantTaken = false

/-- R36: the REFIN edges of the window that ends. -/
def windowCount (edges : Nat) (s : State) : Nat := s.time.monitorEdges + edges

/-! ### What a cause makes of a lane -/

/-- R128: the fields that only a consumer holds are absent; R173: in AUTO the hold timer starts, to expire 2^25 ticks on. -/
def stoppedConsuming (now : Time) (l : Lane) : Lane :=
  { l with
    playhead := none, current := none, repeatSrc := none, concealedRun := 0, ramp := none
    holdTimer := if l.ampMode = .auto then some (addTicks now (2 ^ 25)) else l.holdTimer }

/-- R140: a lane in PLAY that begins a ramp-down: level 1, or, where a ramp-in is under way whose last sample had level k,
65 - k, and 64 where it has handed on none (`up m` holds the level of the next sample, k + 1). -/
def rampingDown (dest : Destination) (l : Lane) : Lane :=
  { l with
    state := .rampdown
    ramp := some (.down 1 (match l.ramp with
      | some (.up m) => min 64 (66 - m)
      | _ => 1) dest) }

/-- R84, R166: a cause with destination WAIT, by the lane's state. -/
def afterWaitCause (now : Time) (l : Lane) : Lane :=
  match l.state with
  | .play => rampingDown .wait l
  | .prime => { stoppedConsuming now l with state := .wait }
  | .rampdown | .wait | .stop => l

/-- R102, R164: a cause with destination STOP, by the lane's state. -/
def afterStopCause (now : Time) (l : Lane) : Lane :=
  match l.state with
  | .play => rampingDown .stop l
  | .rampdown =>
    { l with ramp := match l.ramp with
      | some (.down c m _) => some (.down c m .stop)
      | other => other }
  | .prime => { stoppedConsuming now l with state := .stop, route := none }
  | .wait => { l with state := .stop, route := none }
  | .stop => l

/-- R161: the settings a request or a staged change carries are written; R172: writing the amp mode stops the hold timer. -/
def withSettings (v : Settings) (l : Lane) : Lane :=
  { l with
    plan := v.plan.getD l.plan
    gain := v.gain.getD l.gain
    delay := v.delay.getD l.delay
    ampMode := v.amp.getD l.ampMode
    holdTimer := if v.amp = none then l.holdTimer else none }

/-- R115: a route from the record `b` to the record `t`, its release point recomputed from the hold sequences of its consumers:
it moves to the hold at the smallest signed distance, where that is above 0, and the VALID entries it passes become INVALID. -/
def ReleaseFollowed (holds : List Seq) (b t : Route) : Prop :=
  (b.release = none ∨ holds = [] → t.release = b.release ∧ t.dir = b.dir) ∧
  ∀ rp q, b.release = some rp → q ∈ holds → (∀ x ∈ holds, seqDist rp q ≤ seqDist rp x) →
    (0 < seqDist rp q → t.release = some q ∧ t.dir = b.dir.map (passedBy q)) ∧
    (seqDist rp q ≤ 0 → t.release = some rp ∧ t.dir = b.dir)

/-- R115, R135: a cause that takes the lanes `left` out of PRIME, from the state `s` to the state `t`, as the routes see it. A
route that no such lane was primed on is as before; one that a single such lane was primed on follows the holds that remain;
of one with several, only release point and directory change, as the order of the lanes has it (log entry 23). -/
structure PrimeLeft (left : LaneId → Prop) (s t : State) : Prop where
  others : ∀ r, (∀ i, left i → (s.lane i).state = .prime → (s.lane i).route ≠ some r) → t.route r = s.route r
  single : ∀ r i, left i → (s.lane i).state = .prime → (s.lane i).route = some r →
    (∀ j, j ≠ i → left j → (s.lane j).state = .prime → (s.lane j).route ≠ some r) →
    ReleaseFollowed (t.holds r) (s.route r) (t.route r)
  kept : ∀ r, t.route r = { s.route r with release := (t.route r).release, dir := (t.route r).dir }

/-- The lanes whose bound route stands on the slot (R84). -/
def onSlot (g : SlotId) (s : State) (i : LaneId) : Prop :=
  ∃ r c, (s.lane i).route = some r ∧ (s.route r).config = some c ∧ c.slot = g

/-- R79, R81: what an increase of the lost count to `lost` calls for: HOLDOVER in TRACK and LOCKED from holdover-enter on,
the loss of the leader in HOLDOVER from the holdover limit on, nothing in any other state. -/
def lossDueAt (st : GroupState) (c : SlotConfig) (lost : Nat) : Option LossEvent :=
  if (st = .track ∨ st = .locked) ∧ c.holdoverEnter ≤ lost then some .holdover
  else if st = .holdover ∧ c.holdoverLimit ≤ lost then some .leaderLost
  else none

/-- R55, R56: a follower slot after a due event, by the phase of its record. -/
def afterDue (c : SlotConfig) (g : GroupSlot) : GroupSlot :=
  match g.record with
  | some (.queued _) => g
  | none => { g with record := some (.queued g.seqCounter), seqCounter := g.seqCounter + 1 }
  | some (.outstanding _ _ _) =>
    { g with
      record := some (.queued g.seqCounter), seqCounter := g.seqCounter + 1
      lost := countUp g.lost, lossDue := lossDueAt g.state c (countUp g.lost) }

/-- R66: a filter restarted. -/
def filterEmptied (g : GroupSlot) : GroupSlot := { g with errSum := 0, pathSum := 0, accepted := 0, rejected := 0 }

/-- R63, R80: a follower slot whose outstanding sounding a valid return completes; HOLDOVER is left for TRACK. -/
def soundingCompleted (g : GroupSlot) : GroupSlot :=
  let g := { g with record := none, lost := 0, lossDue := none }
  if g.state = .holdover then { filterEmptied g with state := .track, insideRun := 0, outsideRun := 0 } else g

/-- R53: a slot whose sounding of `t1` has ended at the counter value `now`: in STREAM mode the next one is made at once, or
armed for t1 + 2^16 while that lies ahead. -/
def soundingFollowed (c : SlotConfig) (t1 now : Time) (g : GroupSlot) : GroupSlot :=
  if c.mode = .stream then
    if 0 ≤ timeDist (t1 + 65536) now then { g with record := some (.queued g.seqCounter), seqCounter := g.seqCounter + 1 }
    else { g with streamDue := some (t1 + 65536) }
  else g

/-- R65: a delay history of at most eight paths with one more, the oldest gone where there were eight. -/
def historyWith (p : Nat) (h : List Nat) : List Nat := if h.length < 8 then h ++ [p] else h.tail ++ [p]

/-- R64 to R67, R75: what the sample of a return with the stamps t1 to t4 and the path `p` does to a slot: some path of the
history lies more than the gate below it, and it counts as rejected; or, in ACQUIRE, it builds the map and enters TRACK; or
it joins the filter, whose block it may complete. -/
def sampleTaken (c : SlotConfig) (t1 t2 t3 t4 : Time) (p : Nat) (g : GroupSlot) : GroupSlot :=
  let h := historyWith p g.history
  let g := { g with history := h }
  if ∃ x ∈ h, x + c.gate < p then { g with rejected := countUp g.rejected }
  else
    match g.state, g.map with
    | .acquire, _ =>
      { filterEmptied g with
        state := .track, insideRun := 0, outsideRun := 0
        map := some { al := t4, ag := addTicks t3 (p / 2 : Nat), trim := clampInt (-8192) 8192 (g.integrator / 256) } }
    | _, some m =>
      { g with
        errSum := g.errSum + (timeDist (m.convert t1) t2 + timeDist (m.convert t4) t3)
        pathSum := g.pathSum + p
        accepted := g.accepted + 1
        blockDone := if g.accepted + 1 = 2 ^ c.filterN then some t4 else none }
    | _, none => g

/-- R55: the SOUNDING that a slot makes, offered to its class. -/
def soundingOf (i : SlotId) (own : Byte) (c : SlotConfig) (g : GroupSlot) : SoundingEntry :=
  { slot := i, seq := g.seqCounter, bytes := [2, c.leader, own, g.tag, g.seqCounter, 0, 0, 0, 0, 0, 0] }

/-- R52, R55, R56: at the value `now` the slot's tick bit rises in TICK mode, and its due event makes a sounding, which its
class, holding one for a slot, takes. -/
def tickOffers (now : Time) (s : State) (i : SlotId) : Prop :=
  (s.slot i).role = some .follower ∧
  (∃ c, (s.slot i).config = some c ∧ c.mode = .tick ∧ now.toNat % 2 ^ (c.tickBit + 1) = 2 ^ c.tickBit) ∧
  (∀ seq, (s.slot i).record ≠ some (.queued seq)) ∧ ∀ e ∈ s.tx.snd, e.slot ≠ i

/-! ### The store at work -/

/-- R122: the arbiter at work on a store. A burst under way goes on; a free memory is granted to the waiting lane of lowest
number, where no lane waits to the next page of the placement, and where it has none left to nobody: a SLOT-PEEK is granted by
its own command (log entry 16). -/
def Granted (a b : Store) : Prop :=
  (a.burst ≠ none → b = a) ∧
  (a.burst = none →
    (∀ (i : LaneId) page more, a.reads[i] = page :: more → (∀ j, j < i → a.reads[j] = []) →
      b = { a with burst := some (.laneRead i page), reads := a.reads.set i.val more i.isLt }) ∧
    ((∀ j : LaneId, a.reads[j] = []) →
      (∀ p, a.placement = some p → p.abandoned = false → p.written < (p.frame.n + 31) / 32 →
        b = { a with burst := some (.write (p.base + p.written * 256) ((p.data.drop (p.written * 256)).take 256)) }) ∧
      ((∀ p, a.placement = some p → p.abandoned = true ∨ (p.frame.n + 31) / 32 ≤ p.written) → b = a)))

/-- R29: the lookup gives this route to an AUDIO frame. -/
structure HandedTo (e : IngressEntry) (r : RouteId) (c : RouteConfig) (s : State) : Prop where
  kind : frameKindByte e.bytes = 1
  config : (s.route r).config = some c
  stream : c.stream = audioStream e.bytes
  taking : (s.route r).state = .armed ∨ (s.route r).state = .live
  alone : ∀ q c', (s.route q).taking = true → (s.route q).config = some c' → c'.stream = c.stream → q = r

/-- R119: from the state `b`, the frame `f` of the entry `e` is being stored: its directory entry is IN PLACEMENT, the
placement in flight holds its samples in stored form (R109, log entry 8), the ingress entry is held, the memory is granted
where it was free, and nothing else has changed. -/
def PlacementBegun (e : IngressEntry) (f : StoredFrame) (r : RouteId) (c : RouteConfig) (b t : State) : Prop :=
  let index := f.seq.toNat % c.depth
  Granted
    { b.store with
      placement := some
        { route := r, index := index, frame := f
          base := sampleAddress (c.firstPage + index * c.slotPages) 0
          data := (storedPairs (audioStereo e.bytes) (audioWide e.bytes) (audioN e.bytes) (audioPayload e.bytes)).flatMap
            storedBytes
          written := 0, abandoned := false } }
    t.store ∧
  t = { b.setRoute r { b.route r with dir := (b.route r).dir.set index (.inPlacement f.seq) } with
    store := t.store, rx := { b.rx with hand := some .routeUnit } }

/-- R117 to R119: from the state `b`, the decision on a frame `f` admitted to a LIVE route with the release point `rp`: late;
ahead, where a lane consumes the route; a duplicate; or stored, after a slide where it lies D or more ahead and no lane
consumes the route. `rest` is the ingress queue behind its entry. -/
def PlacementDecided (e : IngressEntry) (rest : List IngressEntry) (f : StoredFrame) (r : RouteId) (c : RouteConfig)
    (rp : Seq) (b t : State) : Prop :=
  let d := seqDist rp f.seq
  let found := (b.route r).dir.getD (f.seq.toNat % c.depth) .invalid
  let gone := released rest b
  let slid := f.seq - BitVec.ofNat 16 c.depth + 1
  (d < 0 → t = (gone.bump r (fun k => { k with late := countUp k.late })).raise .frameLate) ∧
  ((c.depth : Int) ≤ d → b.hasConsumer r = true →
    t = (gone.bump r (fun k => { k with ahead := countUp k.ahead })).raise .frameAhead) ∧
  ((c.depth : Int) ≤ d → b.hasConsumer r = false →
    PlacementBegun e f r c
      (b.setRoute r { b.route r with release := some slid, dir := (b.route r).dir.map (passedBy slid) }) t) ∧
  (0 ≤ d → d < c.depth → (∃ g, found = .valid g ∧ g.seq = f.seq) →
    t = gone.bump r (fun k => { k with duplicate := countUp k.duplicate })) ∧
  (0 ≤ d → d < c.depth → (∀ g, found = .valid g → g.seq ≠ f.seq) → PlacementBegun e f r c b t)

/-- R103, R112, R125: a route with the configuration `c` becomes FREE, its counters kept and its pages given back; a SLOT-PEEK
that waits for its grant on it is withdrawn and completes with DONE, reporting FREE and no entries; no other request is
touched. -/
structure RouteFreed (r : RouteId) (c : RouteConfig) (s t : State) : Prop where
  route : t.route r = { State.reset.route r with counters := (s.route r).counters }
  pages : t.store.pages = fillRun s.store.pages c.firstPage (c.depth * c.slotPages) none
  withdrawn : ∀ first count, s.mgmt.phase = .storeWait r first count →
    let ended := s.finishItem .done (List.replicate 9 0)
    t.mgmt = ended.mgmt ∧ t.tx = ended.tx
  kept : (∀ first count, s.mgmt.phase ≠ .storeWait r first count) → t.mgmt = s.mgmt ∧ t.tx = s.tx

/-! ### Sense inputs and bindings -/

/-- R175: an input whose pin has been sampled. -/
def sampledInput (pin : Bool) (x : SenseInput) : SenseInput :=
  { x with pin := pin, run := if pin = x.accepted then 0 else x.run + 1 }

/-- R175, R176: an input whose level, if it has stood for 48 samples, is accepted; an activation sets the latch under
MUTE_ALL. -/
def acceptedInput (x : SenseInput) : SenseInput :=
  if x.run < 48 then x
  else if x.accepted then { x with accepted := false, run := 0 }
  else { x with accepted := true, run := 0, latch := x.latch || x.action == .muteAll }

/-- R166, R175, R176: the pins are sampled and the inputs accepted, from the state `u` to the state `v`: each activation raises
its condition, and the first latch set moves every lane. -/
def SensesTaken (sns0 sns1 : Bool) (u v : State) : Prop :=
  let x := sampledInput sns0 (u.input 0)
  let y := sampledInput sns1 (u.input 1)
  let mutes : Prop := u.muted = false ∧ ((acceptedInput x).latch = true ∨ (acceptedInput y).latch = true)
  v.input 0 = acceptedInput x ∧ v.input 1 = acceptedInput y ∧
  v.cond = { u.cond with
    present := u.cond.present ||| (if 48 ≤ x.run ∧ x.accepted = false then Condition.mask .sense0 else 0)
      ||| (if 48 ≤ y.run ∧ y.accepted = false then Condition.mask .sense1 else 0) } ∧
  (mutes → (∀ i, v.lane i = afterWaitCause u.time.lmc (u.lane i)) ∧ PrimeLeft (fun _ => True) u v) ∧
  (¬ mutes → v.lanes = u.lanes ∧ v.routes = u.routes) ∧
  { v with sense := u.sense, cond := u.cond, lanes := u.lanes, routes := u.routes } = u

/-- R115, R129, R135, R161, R172, R173: a LANE-BIND that has passed every check, from the state `u` to the state `t`: at once in
STOP, WAIT and PRIME, staged in PLAY and RAMPDOWN. A lane that leaves PRIME for another route has its settings written first,
by the model's choice (log entry 27), and the route it leaves follows the holds that remain. -/
def BindingMade (now : Time) (i : LaneId) (r : RouteId) (v : Settings) (u t : State) : Prop :=
  let l := u.lane i
  (l.state = .stop ∨ l.state = .wait → t = u.setLane i { withSettings v l with route := some r, state := .wait }) ∧
  (l.state = .prime → l.route = some r → t = u.setLane i (withSettings v l)) ∧
  (l.state = .prime → l.route ≠ some r →
    t.lane i = { stoppedConsuming now (withSettings v l) with state := .wait, route := some r }
      ∧ (∀ j, j ≠ i → t.lane j = u.lane j) ∧ PrimeLeft (fun k => k = i) u t
      ∧ { t with lanes := u.lanes, routes := u.routes } = u) ∧
  (l.state = .play ∨ l.state = .rampdown → t = u.setLane i { l with staged := some v })

/-! ### A lane's step -/

/-- R142: the next frame where it is present and continuous: VALID at its index with the next sequence, RESTART clear, and a PT
within 511 ticks of the expected one. -/
def continuousNext (t : Route) (c : RouteConfig) (f : CurrentFrame) : Option StoredFrame :=
  match t.dir.getD ((f.seq + 1).toNat % c.depth) .invalid with
  | .valid g =>
    if g.seq = f.seq + 1 ∧ g.restart = false ∧ (timeDist (addTicks f.pt ((f.n : Int) * 512)) g.pt).natAbs ≤ 511 then some g
    else none
  | _ => none

/-- R142: the next frame is discontinuous: VALID with the next sequence, and RESTART set or a PT 512 ticks or more off. -/
def discontinuousNext (t : Route) (c : RouteConfig) (f : CurrentFrame) : Prop :=
  ∃ g, t.dir.getD ((f.seq + 1).toNat % c.depth) .invalid = .valid g ∧ g.seq = f.seq + 1 ∧
    (g.restart = true ∨ 512 ≤ (timeDist (addTicks f.pt ((f.n : Int) * 512)) g.pt).natAbs)

/-- R143: the lane enters a present frame. -/
def entering (g : StoredFrame) (l : Lane) : Lane :=
  { l with
    current := some { seq := g.seq, pt := g.pt, n := g.n, kind := .present }, repeatSrc := none, concealedRun := 0 }

/-- R152, R153, R157: the lane conceals the frame after `f`: it stands where the missing frame would; the run grows up to the
limit; in REPEAT the run's source is the frame that the run began on leaving. -/
def concealing (c : RouteConfig) (f : CurrentFrame) (l : Lane) : Lane :=
  { l with
    current := some { seq := f.seq + 1, pt := addTicks f.pt ((f.n : Int) * 512), n := f.n, kind := .concealed }
    concealedRun := if l.concealedRun < c.concealLimit then l.concealedRun + 1 else l.concealedRun
    repeatSrc := match c.concealMode with
      | .silence => none
      | .repeat => if l.concealedRun = 0 then some f.seq else l.repeatSrc }

/-- R162: a lane at a frame entry, once a staged change has landed: in PLAY the settings carried are written, and a route part
naming another route that is ARMED or LIVE begins a ramp-down and stays staged alone. -/
def stagedLanded (r : RouteId) (s : State) (l : Lane) : Lane :=
  match l.state, l.staged with
  | .play, some v =>
    let written := { withSettings v l with staged := none }
    match v.route with
    | none => written
    | some q =>
      if q ≠ r ∧ ((s.route q).state = .armed ∨ (s.route q).state = .live) then
        { rampingDown .wait written with
          staged := some { route := some q, plan := none, gain := none, delay := none, amp := none } }
      else written
  | _, _ => l

/-- R142: the playhead has passed the end of the current frame. -/
def endPassed (l : Lane) : Prop :=
  ∃ h f, l.playhead = some h ∧ l.current = some f ∧ (f.n : Int) * 2 ^ 25 ≤ headDist (timeToHead f.pt) h

/-- R146, R153: the pair at an index of the current frame: stored, the repeat source's, or 0. -/
def sampleAt (s : State) (c : RouteConfig) (l : Lane) (f : CurrentFrame) (j : Nat) : Int × Int :=
  let stored : Seq → Int × Int := fun q =>
    let p := readStored s.store.mem (frameSampleAddress c q j)
    (p.left.toInt, p.right.toInt)
  match f.kind, l.repeatSrc with
  | .present, _ => stored f.seq
  | .concealed, some q => stored q
  | .concealed, none => (0, 0)

/-- R146 to R148: the pair that a lane at the playhead `h` in its current frame takes: sample 0 before the frame, the last one
past it; inside, the interpolated pair, the last sample going on to the next frame where that is present and continuous. -/
def pairAt (s : State) (r : RouteId) (c : RouteConfig) (l : Lane) (f : CurrentFrame) (h : Playhead) : Int × Int :=
  let o := headDist (timeToHead f.pt) h
  if o < 0 then sampleAt s c l f 0
  else if (f.n : Int) * 2 ^ 25 ≤ o then sampleAt s c l f (f.n - 1)
  else
    let j := (o / 2 ^ 25).toNat
    let phi := o % 2 ^ 25 / 512
    let x := sampleAt s c l f j
    let y :=
      if j + 1 < f.n then sampleAt s c l f (j + 1)
      else
        match continuousNext (s.route r) c f with
        | some g =>
          let p := readStored s.store.mem (frameSampleAddress c g.seq 0)
          (p.left.toInt, p.right.toInt)
        | none => x
    (x.1 + (y.1 - x.1) * phi / 65536, x.2 + (y.2 - x.2) * phi / 65536)

/-- R146, R153: the page that a sample of the current frame is read from: the entry's own, the repeat source's, or none. -/
def samplePage (c : RouteConfig) (l : Lane) (f : CurrentFrame) (j : Nat) : Option Nat :=
  let stored : Seq → Nat := fun q => c.firstPage + q.toNat % c.depth * c.slotPages + j / 32
  match f.kind, l.repeatSrc with
  | .present, _ => some (stored f.seq)
  | .concealed, some q => some (stored q)
  | .concealed, none => none

/-- R149: the pages that a lane at the playhead `h` asks to read: one request for each page that holds a sample needed, the
page of x_i first (log entry 25). -/
def pagesAt (s : State) (r : RouteId) (c : RouteConfig) (l : Lane) (f : CurrentFrame) (h : Playhead) : List Nat :=
  let o := headDist (timeToHead f.pt) h
  if o < 0 then (samplePage c l f 0).toList
  else if (f.n : Int) * 2 ^ 25 ≤ o then (samplePage c l f (f.n - 1)).toList
  else
    let j := (o / 2 ^ 25).toNat
    let x := samplePage c l f j
    let y :=
      if j + 1 < f.n then samplePage c l f (j + 1)
      else
        match continuousNext (s.route r) c f with
        | some g => some (c.firstPage + g.seq.toNat % c.depth * c.slotPages)
        | none => x
    if x = y then x.toList else x.toList ++ y.toList

/-- R150, R154, R168, R169: the pair as the output stage shapes it for the lane: its plan, its concealment depth while the
frame is CONCEALED, its gain and its ramp. -/
def handedOn (l : Lane) (f : CurrentFrame) (pair : Int × Int) : Pair :=
  shapePair
    { plan := l.plan, depth := if f.kind = .concealed then l.concealedRun else 0, gain := l.gain, ramp := l.ramp }
    pair.1 pair.2

/-- R136, R142, R144: a step's frame entries, from the state `u` to the state `w` that the fetch finds. Entries are made while the
playhead lies past the current frame's end, at most D, and no further one once an entry has taken the lane out of PLAY; a
lane in PLAY that is still past the end after D entries realigns. -/
def EntriesMade (i : LaneId) (c : RouteConfig) (u w : State) : Prop :=
  ∃ k, k ≤ c.depth ∧
    let at' : Nat → State := fun j => (State.frameEntry i)^[j] u
    let leaves : Nat → Prop := fun j => ((at' j).lane i).state = .play ∧ ((at' (j + 1)).lane i).state ≠ .play
    (∀ j, j < k → endPassed ((at' j).lane i)) ∧ (∀ j, j + 1 < k → ¬ leaves j) ∧
    (k = c.depth ∨ ¬ endPassed ((at' k).lane i) ∨ ∃ j, j + 1 = k ∧ leaves j) ∧
    ((k = c.depth ∧ endPassed ((at' k).lane i) ∧ ((at' k).lane i).state = .play →
        w = ((at' k).setLane i (rampingDown .wait ((at' k).lane i))).raise .realigned) ∧
      (¬ (k = c.depth ∧ endPassed ((at' k).lane i) ∧ ((at' k).lane i).state = .play) → w = at' k))

/-- R136, R138, R139, R140, R149, R150: a step of the lane from the state `u`, its target and error formed, no other lane
stepping: the frame entries, the read requests, which take the place of those of the instant before (log entry 11), with the
grant where the memory was free, the hand-off of the pair at the playhead, the ramp's advance, and the playhead's. -/
def StepMade (i : LaneId) (r : RouteId) (c : RouteConfig) (advance : Int) (u t : State) : Prop :=
  ∃ w f h, EntriesMade i c u w ∧ (w.lane i).current = some f ∧ (w.lane i).playhead = some h ∧
    t.lane i =
      { w.lane i with
        playhead := some (h + BitVec.ofInt 64 advance)
        ramp := match (w.lane i).ramp with
          | none => none
          | some (.up m) => some (.up (m + 1))
          | some (.down count m dest) => some (.down (count + 1) (min 64 (m + 1)) dest) } ∧
    t.out.reg[i] = handedOn (w.lane i) f (pairAt w r c (w.lane i) f h) ∧
    Granted
      { w.store with reads := (Vector.replicate 4 []).set i.val (pagesAt w r c (w.lane i) f h) i.isLt } t.store ∧
    t.routes = w.routes ∧ t.cond = w.cond

/-- The command that executes a request; those whose effect depends on the counter have it at `now`. -/
def requestCommand (now : Time) : Request → Instr
  | .identify => .identify | .status => .status | .conditionsClear => .conditionsClear
  | .conditionsMask => .conditionsMask | .timebaseSelect => .timebaseSelect | .groupSet => .groupSet now
  | .groupClear => .groupClear | .groupSound => .groupSound | .groupMeasure => .groupMeasure | .routeArm => .routeArm
  | .routeDisarm => .routeDisarm now | .routeCounts => .routeCounts | .laneBind => .laneBind now
  | .laneUnbind => .laneUnbind now | .laneGain => .laneGain | .senseAction => .senseAction | .slotPeek => .slotPeek
  | .pageRuns => .pageRuns | .deviceReset => .deviceReset

/-! ### Laws of one state -/

/-- R108: the store memory is in canonical form and inside its 1,024 pages. -/
def MemoryCanonical (s : State) : Prop := Memory.wf s.store.mem = true

/-- R40: a trim that a follower's map may have. -/
def trimInRange (t : Int) : Bool := decide (-8192 ≤ t) && decide (t ≤ 8192)

/-- R40: the role fixes the states, and the state the map. -/
def slotLegal (g : GroupSlot) : Bool :=
  match g.role, g.state, g.map with
  | none, .idle, none => true
  | some .leader, .leading, some m => m.trim == 0
  | some .follower, .acquire, none => true
  | some .follower, .track, some m => trimInRange m.trim
  | some .follower, .locked, some m => trimInRange m.trim
  | some .follower, .holdover, some m => trimInRange m.trim
  | _, _, _ => false

/-- R40, of every slot. -/
def SlotsLegal (s : State) : Prop := ∀ i : SlotId, slotLegal (s.slot i) = true

/-- R45: the ranges of a slot's configuration. -/
def configInRange (c : SlotConfig) : Bool :=
  decide (c.leader.toNat ≤ 14) && decide (16 ≤ c.tickBit ∧ c.tickBit ≤ 27)
    && decide (2 ^ 14 ≤ c.timeout ∧ c.timeout ≤ 2 ^ 24) && decide (1 ≤ c.filterN ∧ c.filterN ≤ 8)
    && decide (c.gate ≤ 65535) && decide (c.response ≤ 4) && decide (c.window ≤ 65535)
    && decide (1 ≤ c.lockCount ∧ c.lockCount ≤ 15) && decide (1 ≤ c.unlockCount ∧ c.unlockCount ≤ 15)
    && decide (1 ≤ c.holdoverEnter ∧ c.holdoverEnter ≤ 15) && decide (16 ≤ c.holdoverLimit ∧ c.holdoverLimit ≤ 255)

/-- R45: every configuration written is in range. -/
def ConfigsInRange (s : State) : Prop := ∀ (i : SlotId) (c : SlotConfig), (s.slot i).config = some c → configInRange c = true

/-- R45: no two slots in use hold one tag. -/
def TagsDistinct (s : State) : Prop :=
  ∀ i j : SlotId, (s.slot i).tag ≠ 0 → (s.slot i).tag = (s.slot j).tag → i = j

/-- R6, R11, R31, R65: no queue holds more than its capacity; the SOUNDING class holds one entry for a slot. -/
structure WithinCapacity (s : State) : Prop where
  ingress : s.rx.ingress.length ≤ 4
  ret : s.tx.ret.length ≤ 4
  snd : (s.tx.snd.map (·.slot)).Nodup
  src : s.tx.src.length ≤ 4
  rep : s.tx.rep.length ≤ 1
  mgmt : s.mgmt.queue.length ≤ 2
  history : ∀ i : SlotId, (s.slot i).history.length ≤ 8

/-- R128: which fields of a lane's record its state has; R165: a lane in STOP, WAIT or PRIME holds no staged change. -/
def laneLegal (l : Lane) : Bool :=
  match l.state with
  | .stop =>
    l.route.isNone && l.playhead.isNone && l.current.isNone && l.repeatSrc.isNone && l.ramp.isNone && l.staged.isNone
      && l.concealedRun == 0
  | .wait =>
    l.route.isSome && l.playhead.isNone && l.current.isNone && l.repeatSrc.isNone && l.ramp.isNone && l.staged.isNone
      && l.concealedRun == 0
  | .prime =>
    l.route.isSome && l.playhead.isNone && l.current.isSome && l.repeatSrc.isNone && l.ramp.isNone && l.staged.isNone
      && l.concealedRun == 0
  | .play =>
    l.route.isSome && l.playhead.isSome && l.current.isSome
      && (match l.ramp with
        | none => true
        | some (.up _) => true
        | some (.down _ _ _) => false)
  | .rampdown =>
    l.route.isSome && l.playhead.isSome && l.current.isSome
      && (match l.ramp with
        | some (.down _ _ _) => true
        | _ => false)

/-- R129: the law on bindings. A lane in STOP is bound to no route, every other lane to one that is not FREE. -/
structure LanesLegal (s : State) : Prop where
  record : ∀ i : LaneId, laneLegal (s.lane i) = true
  bound : ∀ (i : LaneId) (r : RouteId), (s.lane i).route = some r → (s.route r).state ≠ .free

/-- R88: a route is FREE exactly while it holds no configuration. -/
def RoutesConfigured (s : State) : Prop := ∀ r : RouteId, (s.route r).state = .free ↔ (s.route r).config = none

/-- R110: the page lies in the route's run. -/
def inRun (c : RouteConfig) (p : Nat) : Prop := c.firstPage ≤ p ∧ p < c.firstPage + c.depth * c.slotPages

/-- R110: the page map has 1,024 pages; a page has the route as its owner exactly when it lies in the route's run; every run
lies inside the store. -/
structure PagesLegal (s : State) : Prop where
  size : s.store.pages.length = 1024
  owned : ∀ (r : RouteId) (p : Nat), s.store.pages[p]? = some (some r) ↔
    ∃ c, (s.route r).config = some c ∧ inRun c p

/-- R114: the window of one route. An ARMED route has no release point and no VALID entry; in any other route each VALID
entry's sequence lies 0 to D - 1 after the release point and sits at its index modulo D. -/
structure RouteWindow (t : Route) : Prop where
  empty : t.release = none → ∀ (e : Nat) (f : StoredFrame), t.dir[e]? ≠ some (.valid f)
  window : ∀ (c : RouteConfig) (rp : Seq) (e : Nat) (f : StoredFrame), t.config = some c → t.release = some rp →
    t.dir[e]? = some (.valid f) →
      0 ≤ seqDist rp f.seq ∧ seqDist rp f.seq < c.depth ∧ e = f.seq.toNat % c.depth
  depth : ∀ c, t.config = some c → t.dir.length = c.depth ∧ 8 ≤ c.depth ∧ c.depth ≤ 64 ∧ 2 ^ 16 % c.depth = 0
  free : t.config = none → t.dir = [] ∧ t.release = none
  live : t.state = .live → t.release.isSome = true
  armed : t.state = .armed → t.release = none

/-- R114, of every route. -/
def WindowsLegal (s : State) : Prop := ∀ r : RouteId, RouteWindow (s.route r)

/-- R119: the placement in flight stands where its frame's sequence puts it, in a route that holds a release point. -/
def PlacementLegal (s : State) : Prop :=
  ∀ p, s.store.placement = some p → ∃ c, (s.route p.route).config = some c ∧ p.index = p.frame.seq.toNat % c.depth

/-- R120 takes the distance of a frame in flight at the end of its writes, as a signed 16-bit number (R35). This step carries
the release point of that frame's route no further than such a distance can show: forward, and at most 32,768 sequences past
the frame. -/
def ReleaseNear (s t : State) : Prop :=
  ∀ p p' rp rp', s.store.placement = some p → t.store.placement = some p' → p'.route = p.route → p'.frame = p.frame →
    (s.route p.route).release = some rp → (t.route p.route).release = some rp' →
    0 ≤ seqDist rp rp' ∧ seqDist rp rp' ≤ seqDist rp p.frame.seq + 32768

/-- R117, R120: the frame in flight lies less than D after its route's release point. -/
def PlacementBelow (s : State) : Prop :=
  ∀ p c rp, s.store.placement = some p → (s.route p.route).config = some c → (s.route p.route).release = some rp →
    seqDist rp p.frame.seq < c.depth

/-- R89: every route in SOURCE mode stands on a LEADING slot. -/
def SourcesLed (s : State) : Prop :=
  ∀ (r : RouteId) (c : RouteConfig), (s.route r).config = some c → c.mode = .source → (s.slot c.slot).state = .leading

/-- Spec/01 section 1.4, R8, R27: at most one entry is RECEIVING, the newest, exactly while the receiver is INSIDE; an entry
in hand is COMPLETE; the route unit holds the entry exactly while a placement is in flight. -/
structure ReceiverLegal (s : State) : Prop where
  outside : s.rx.inside = false → ∀ e ∈ s.rx.ingress, e.phase = .complete
  inside : s.rx.inside = true → ∃ pre e, s.rx.ingress = pre ++ [e] ∧ e.phase = .receiving ∧ ∀ x ∈ pre, x.phase = .complete
  hand : ∀ o, s.rx.hand = some o → ∃ e rest, s.rx.ingress = e :: rest ∧ e.phase = .complete
  placing : s.rx.hand = some .routeUnit ↔ s.store.placement.isSome = true

end Sys2Proof.Safety
end

