-- ==== Sys2Proof/Certificates/Slice0/Obligations.lean ====
section
/-! DEFINITION. The statements for the provers. Each docstring names the rules it rests on. `Ready` says that the part is out of
reset and owes no follow-up act (log entry 4); `s.clockTo now` is the state with its counter at the command's moment (log
entry 2); an equation with `.next` says what the command changes and, by the record update, that nothing else changes. -/

open Sys2Proof Sys2Proof.Machine Sys2Proof.Safety

/-! ### The machine -/

/-- A step with a command at the front of the queue is that command on the part with the queue's rest. -/
def Obligations.StepRunsFrontCommand : Prop :=
  ∀ (c : Instr) (rest : List Instr) (s : State), s.pending = c :: rest → step s = exec c { s with pending := rest }

/-- R33: with no command waiting, a step is one count of the LMC, and none while RSTN is asserted or, by the model's choice,
during the internal power-up reset (log entry 28). That an idle step counts is the model's choice (log entry 1). Pins,
timebase state, selection, store memory and the empty queue are kept. -/
def Obligations.IdleStepCountsOnce : Prop :=
  ∀ s : State, s.pending = [] →
    (s.pins.inReset = true → step s = .next s) ∧
    (s.pins.inReset = false → ∃ t, step s = .next t ∧ t.time.lmc = s.time.lmc + 1 ∧ t.time.state = s.time.state
      ∧ t.time.selectRefin = s.time.selectRefin ∧ t.pins = s.pins ∧ t.store.mem = s.store.mem ∧ t.pending = [])

/-- R9, R18, R32, R33, R36, R39, R51, R107, R127, R151, R171, R175 to R178, R192: power-on reset leaves every block as after
reset and the transmit line silent, keeping the store memory, the straps as last sampled, TXHOLD and the sense pins' levels;
the release of reset samples the straps, 15 giving the link address 14, starts the counter from 0 and a first monitor window,
and the line carries IDLE words, 0x13C, where no frame departs. That the internal power-up reset is one state with an
asserted RSTN is the model's choice (log entry 28). Two clauses are as well: that RSTN_RELEASE outside reset does nothing
(log entry 3: an event that cannot take place has no effect), and that the command queue stays (log entry 20). -/
def Obligations.ResetAndRelease : Prop :=
  (∀ s : State,
    let t : State :=
      { State.reset with
        pins := { s.pins with inReset := true }
        store := { State.reset.store with mem := s.store.mem }
        sense := s.sense.map (fun x => { pin := x.pin, accepted := false, run := 0, action := .none, latch := false })
        pending := s.pending }
    exec .powerOnReset s = .next t ∧ t.txLine = .silent) ∧
  (∀ (adr : BitVec 4) (aenpol : Bool) (s : State),
    let t : State :=
      { s with
        time := { lmc := 0, instantTaken := true, tickTaken := true, state := .xo, selectRefin := false, monitorEdges := 0 }
        pins := { s.pins with
          inReset := false, straps := adr, aenpol := aenpol
          linkAddress := if adr = 15 then 14 else BitVec.ofNat 8 adr.toNat } }
    (s.pins.inReset = true → exec (.rstnRelease adr aenpol) s = .next t ∧ (s.tx.departing = none → t.txLine = .idle 0x13C)) ∧
    (s.pins.inReset = false → exec (.rstnRelease adr aenpol) s = .next s))

/-! ### The link receiver -/

/-- R2 to R7, R19: words of good parity that arrive. In OUTSIDE an SOF claims an entry stamped with the LMC value, or is
dropped with INGRESS_OVERRUN where four entries are held; a bad code raises LINK_CODE; every other word does nothing. In
INSIDE, the newest entry being received, a data byte is appended, or is one too many for the frame; EOF completes it; ABT and
a bad code abandon it with their conditions; an SOF abandons it and starts another; IDLE does nothing. -/
def Obligations.WordsReceived : Prop :=
  (∀ (s : State) (now : Time) (w : LinkWord) (p : Bool) (c : Byte), Ready s → s.rx.inside = false →
    (s.rx.ingress.length < 4 → exec (.sofArrival now false) s = .next
      { s.clockTo now with
        rx := { s.rx with
          inside := true
          ingress := s.rx.ingress ++ [{ phase := .receiving, stamp := now, bytes := [], parityMark := false }] } }) ∧
    (4 ≤ s.rx.ingress.length → exec (.sofArrival now false) s = .next ((s.clockTo now).raise .ingressOverrun)) ∧
    (goodParity w = true → w.getLsbD 8 = false → exec (.dataByteArrival w) s = .next s) ∧
    exec (.idleArrival false) s = .next s ∧ exec (.eofArrival false) s = .next s ∧ exec (.abtArrival false) s = .next s ∧
    (goodParity (controlWord p c) = true → Byte.isBadCode c = true →
      exec (.badCodeArrival p c) s = .next (s.raise .linkCode))) ∧
  (∀ (s : State) (now : Time) (pre : List IngressEntry) (e : IngressEntry) (w : LinkWord) (p : Bool) (c : Byte),
    Ready s → s.rx.inside = true → s.rx.ingress = pre ++ [e] → e.phase = .receiving → (∀ x ∈ pre, x.phase = .complete) →
    (goodParity w = true → w.getLsbD 8 = false → e.bytes.length < 2048 → exec (.dataByteArrival w) s = .next
      { s with rx := { s.rx with ingress := pre ++ [{ e with bytes := e.bytes ++ [w.setWidth 8] }] } }) ∧
    (goodParity w = true → w.getLsbD 8 = false → 2048 ≤ e.bytes.length → exec (.dataByteArrival w) s = .next
      (({ s with rx := { s.rx with inside := false, ingress := pre } } : State).raise .frameMalformed)) ∧
    exec (.idleArrival false) s = .next s ∧
    exec (.eofArrival false) s = .next
      { s with rx := { s.rx with inside := false, ingress := pre ++ [{ e with phase := .complete }] } } ∧
    exec (.abtArrival false) s = .next
      (({ s with rx := { s.rx with inside := false, ingress := pre } } : State).raise .frameAborted) ∧
    (goodParity (controlWord p c) = true → Byte.isBadCode c = true → exec (.badCodeArrival p c) s = .next
      (({ s with rx := { s.rx with inside := false, ingress := pre } } : State).raise .linkCode)) ∧
    (pre.length < 4 → exec (.sofArrival now false) s = .next
      (({ s.clockTo now with
        rx := { s.rx with
          ingress := pre ++ [{ phase := .receiving, stamp := now, bytes := [], parityMark := false }] } } : State).raise
        .frameAborted)))

/-- R1, R3, R4: a word of even parity, whatever its control flag says, raises LINK_PARITY and is taken as a data byte:
nothing more in OUTSIDE; in INSIDE a byte of the frame, whose entry is marked. -/
def Obligations.ParityBadWordIsData : Prop :=
  ∀ (s : State) (w : LinkWord), Ready s → goodParity w = false →
    (s.rx.inside = false → exec (.dataByteArrival w) s = .next (s.raise .linkParity)
      ∧ exec (.eofArrival true) s = .next (s.raise .linkParity) ∧ exec (.abtArrival true) s = .next (s.raise .linkParity)
      ∧ exec (.idleArrival true) s = .next (s.raise .linkParity)
      ∧ exec (.sofArrival s.time.lmc true) s = .next (s.raise .linkParity)) ∧
    ∀ (pre : List IngressEntry) (e : IngressEntry), s.rx.inside = true → s.rx.ingress = pre ++ [e] →
      e.phase = .receiving → (∀ x ∈ pre, x.phase = .complete) → e.bytes.length < 2048 →
      let taken : Byte → State := fun b =>
        ({ s with rx := { s.rx with
          ingress := pre ++ [{ e with bytes := e.bytes ++ [b], parityMark := true }] } } : State).raise .linkParity
      exec (.dataByteArrival w) s = .next (taken (w.setWidth 8)) ∧ exec (.eofArrival true) s = .next (taken 0x5A)
        ∧ exec (.abtArrival true) s = .next (taken 0xF0) ∧ exec (.idleArrival true) s = .next (taken 0x3C)
        ∧ exec (.sofArrival s.time.lmc true) s = .next (taken 0xA5)

/-! ### The dispatcher -/

/-- R20 to R23, R28 steps 1 to 6: the frames that the dispatcher discards, and the condition each raises; and, byte by byte,
when a body is well formed: an AUDIO frame by its length, with six bytes of PT where flag bit 0 is set, byte 8 plus 1 sample
times, two channels under bit 2 and three bytes a value under bit 3; a SOUNDING of 11 bytes, a RETURN of 23; a REQUEST of 1
to 16 items, byte 3 their count, each a code, a length byte and its operands, ending with the frame's last byte. -/
def Obligations.DispatchDiscards : Prop :=
  (∀ bs : List Byte,
    (frameKindByte bs = 1 → (bodyWellFormed bs = true ↔
      bs.length = 9 + (if (byteAt bs 7).getLsbD 0 then 6 else 0)
        + ((byteAt bs 8).toNat + 1) * (if (byteAt bs 7).getLsbD 2 then 2 else 1) * (if (byteAt bs 7).getLsbD 3 then 3 else 2))) ∧
    (frameKindByte bs = 2 → (bodyWellFormed bs = true ↔ bs.length = 11)) ∧
    (frameKindByte bs = 3 → (bodyWellFormed bs = true ↔ bs.length = 23)) ∧
    (frameKindByte bs = 4 → (bodyWellFormed bs = true ↔ ∃ items, requestItems bs = some items)) ∧
    (∀ items : List Item, requestItems bs = some items ↔
      1 ≤ items.length ∧ items.length ≤ 16 ∧ (byteAt bs 3).toNat = items.length ∧
        (∀ x ∈ items, x.operands.length ≤ 255) ∧
        bs.drop 4 = items.flatMap (fun x => [x.code, BitVec.ofNat 8 x.operands.length] ++ x.operands))) ∧
  (∀ (s : State) (now : Time) (e : IngressEntry) (rest : List IngressEntry), AtHead e rest s →
    let gone := released rest (s.clockTo now)
    let mine := frameDest e.bytes = s.pins.linkAddress ∨ frameDest e.bytes = 15
    let kind := frameKindByte e.bytes
    (e.bytes.length < 3 → exec (.dispatch now) s = .next (gone.raise .frameMalformed)) ∧
    (3 ≤ e.bytes.length → ¬ mine → exec (.dispatch now) s = .next gone) ∧
    (3 ≤ e.bytes.length → mine → e.parityMark = true → kind ≠ 4 → exec (.dispatch now) s = .next gone) ∧
    (3 ≤ e.bytes.length → mine → e.parityMark = true → kind = 4 →
      exec (.dispatch now) s = .next (gone.raise .mgmtDiscarded)) ∧
    (3 ≤ e.bytes.length → mine → e.parityMark = false → kind = 0 ∨ 5 < kind →
      exec (.dispatch now) s = .next (gone.raise .frameMalformed)) ∧
    (3 ≤ e.bytes.length → mine → e.parityMark = false → kind = 5 → exec (.dispatch now) s = .next gone) ∧
    (3 ≤ e.bytes.length → mine → e.parityMark = false → 1 ≤ kind ∧ kind ≤ 4 → bodyWellFormed e.bytes = false →
      exec (.dispatch now) s = .next (gone.raise .frameMalformed)))

/-- R31, R178: a REQUEST takes a place of the management queue with its attribute, its entry held while it is copied; with
both places taken it is dropped with MGMT_OVERRUN. The end of the copy releases the entry. The engine takes the oldest frame
once its copy has ended: a broadcast frame at once, an addressed one when the REPLY class is empty, waiting in REPLY_WAIT.
The moments are the commands' (log entry 3). -/
def Obligations.RequestTaken : Prop :=
  ((∀ (s : State) (now : Time) (e : IngressEntry) (rest : List IngressEntry), AtHead e rest s → Passes e s →
    frameKindByte e.bytes = 4 →
    (s.mgmt.queue.length < 2 → exec (.dispatch now) s = .next
      { s.clockTo now with
        mgmt := { s.mgmt with
          queue := s.mgmt.queue ++ [{ addressed := frameDest e.bytes != 15, bytes := e.bytes, copied := false }] }
        rx := { s.rx with hand := some .mgmtCopy } }) ∧
    (2 ≤ s.mgmt.queue.length → exec (.dispatch now) s = .next ((released rest (s.clockTo now)).raise .mgmtOverrun))) ∧
  (∀ s : State, Ready s → s.rx.hand = some .mgmtCopy → exec .mgmtCopyEnd s = .next
    { s with
      mgmt := { s.mgmt with queue := s.mgmt.queue.map (fun f => { f with copied := true }) }
      rx := { s.rx with ingress := s.rx.ingress.tail, hand := none } })) ∧
  (∀ (s : State) (f : MgmtFrame) (rest : List MgmtFrame) (items : List Item), Ready s →
    s.mgmt.phase = .idle ∨ s.mgmt.phase = .replyWait → s.mgmt.queue = f :: rest → requestItems f.bytes = some items →
    (f.copied = true → f.addressed = false ∨ s.tx.rep = [] → exec .mgmtFrameBegin s = .next
      { s with mgmt := { s.mgmt with phase := .running, todo := items, results := [] } }) ∧
    (f.copied = true → f.addressed = true → s.tx.rep ≠ [] → exec .mgmtFrameBegin s = .next
      { s with mgmt := { s.mgmt with phase := .replyWait } }) ∧
    (f.copied = false → exec .mgmtFrameBegin s = .next s))

/-! ### Soundings and returns -/

/-- R25, R30, R60, R61: a SOUNDING at a LEADING slot is answered from its arrival stamp, t2 being the stamp plus AG - AL;
with the RETURN class full it raises RETURN_DROPPED and is not counted. One whose tag no slot in use holds, or whose slot is
not LEADING, is discarded silently. -/
def Obligations.SoundingAnswered : Prop :=
  ∀ (s : State) (now : Time) (e : IngressEntry) (rest : List IngressEntry),
    AtHead e rest s → Passes e s → frameKindByte e.bytes = 2 → TagsDistinct s →
    let tag := byteAt e.bytes 3
    let gone := released rest (s.clockTo now)
    (tag = 0 ∨ (∀ i, (s.slot i).tag ≠ tag) → exec (.dispatch now) s = .next gone) ∧
    ∀ i : SlotId, (s.slot i).tag = tag → tag ≠ 0 →
      ((s.slot i).state ≠ .leading → exec (.dispatch now) s = .next gone) ∧
      ∀ m : TimelineMap, (s.slot i).state = .leading → (s.slot i).map = some m → m.trim = 0 →
        (s.tx.ret.length < 4 → exec (.dispatch now) s = .next
          { gone.setSlot i { s.slot i with answered := countUp (s.slot i).answered } with
            tx := { s.tx with
              ret := s.tx.ret ++ [
                { slot := i
                  tag := (s.slot i).tag
                  bytes := [3, byteAt e.bytes 2, s.pins.linkAddress, byteAt e.bytes 3, byteAt e.bytes 4]
                    ++ (e.bytes.drop 5).take 6 ++ beBytes 6 (m.ag + (e.stamp - m.al)).toNat ++ [0, 0, 0, 0, 0, 0] }] } }) ∧
        (4 ≤ s.tx.ret.length → exec (.dispatch now) s = .next (gone.raise .returnDropped))

/-- R30, R61, R62: a RETURN whose tag no slot in use holds, or whose slot is no follower, is discarded silently; one at a
follower slot that fails any test of validation counts as rejected and changes nothing else. -/
def Obligations.ReturnRejected : Prop :=
  ∀ (s : State) (now : Time) (e : IngressEntry) (rest : List IngressEntry),
    AtHead e rest s → Passes e s → frameKindByte e.bytes = 3 → TagsDistinct s →
    let tag := byteAt e.bytes 3
    let gone := released rest (s.clockTo now)
    (tag = 0 ∨ (∀ i, (s.slot i).tag ≠ tag) → exec (.dispatch now) s = .next gone) ∧
    ∀ i : SlotId, (s.slot i).tag = tag → tag ≠ 0 →
      ((s.slot i).role ≠ some .follower → exec (.dispatch now) s = .next gone) ∧
      ((s.slot i).role = some .follower →
        (∀ c seq t1 deadline, (s.slot i).config = some c → (s.slot i).record = some (.outstanding seq t1 deadline) →
          ¬ (byteAt e.bytes 2 = c.leader ∧ byteAt e.bytes 4 = seq ∧ timeAt e.bytes 5 = t1
            ∧ 0 ≤ timeDist (timeAt e.bytes 11) (timeAt e.bytes 17) ∧ timeDist (timeAt e.bytes 11) (timeAt e.bytes 17) < 2 ^ 20
            ∧ 0 ≤ timeDist t1 e.stamp)) →
        exec (.dispatch now) s = .next (gone.setSlot i { s.slot i with rejected := countUp (s.slot i).rejected }))

/-- R53, R58, R62 to R67, R75, R80: a valid return at a follower slot, whatever its state and trigger mode. The sounding is
completed, its record gone and the lost count 0, HOLDOVER being left for TRACK; in STREAM mode the next sounding follows, at
once or at t1 + 2^16; then the sample goes into the delay history and through the gate, which counts it rejected, and, once
accepted, in ACQUIRE builds the map (AL the return's t4, AG its t3 plus half the path) and enters TRACK, and otherwise joins
the filter with its error and path. A block that it completes keeps the frame in hand for its result (log entry 4); otherwise
the frame is released. -/
def Obligations.ReturnTaken : Prop :=
  ∀ (s : State) (now : Time) (e : IngressEntry) (rest : List IngressEntry) (i : SlotId) (c : SlotConfig) (seq : BitVec 8)
    (t1 deadline : Time),
    AtHead e rest s → Passes e s → frameKindByte e.bytes = 3 → TagsDistinct s →
    (s.slot i).tag = byteAt e.bytes 3 → byteAt e.bytes 3 ≠ 0 → (s.slot i).role = some .follower →
    slotLegal (s.slot i) = true → (s.slot i).config = some c → (s.slot i).record = some (.outstanding seq t1 deadline) →
    byteAt e.bytes 2 = c.leader → byteAt e.bytes 4 = seq → timeAt e.bytes 5 = t1 → (∀ x ∈ s.tx.snd, x.slot ≠ i) →
    let t2 := timeAt e.bytes 11
    let t3 := timeAt e.bytes 17
    let q := timeDist t2 t3
    let rt := timeDist t1 e.stamp
    let done := soundingCompleted (s.slot i)
    let g := sampleTaken c t1 t2 t3 e.stamp (rt - q).toNat (soundingFollowed c t1 now done)
    0 ≤ q → q < 2 ^ 20 → 0 ≤ rt → exec (.dispatch now) s = .next
      { (s.clockTo now).setSlot i g with
        tx := { s.tx with
          snd := if c.mode = .stream ∧ 0 ≤ timeDist (t1 + 65536) now then
              s.tx.snd ++ [soundingOf i s.pins.linkAddress c done]
            else s.tx.snd }
        rx := { s.rx with
          ingress := if g.blockDone = none then rest else s.rx.ingress
          hand := if g.blockDone = none then none else some (.timingUnit i) } }

/-! ### Audio -/

/-- R21, R29, R93 steps 1 to 3, R95, R104: where the fields of an AUDIO frame stand; a frame whose stream no route holds
raises STREAM_UNKNOWN; one whose stream only a DRAINING route holds is discarded silently, and so is one whose route was
disarmed between its lookup and its decision (marked by ROUTE-DISARM, log entry 24); at an ARMED or LIVE route a frame whose
PT-present flag does not fit the mode is misdirected, and one of more samples than an entry holds is oversize; the first
frame admitted at an ARMED SINK route makes it LIVE, the release point D/4 before its sequence, and is stored (bytes as log
entry 8 has them). -/
def Obligations.AudioFrameAdmitted : Prop :=
  (∀ bs : List Byte, 15 ≤ bs.length →
    audioStream bs = byteAt bs 3 ++ byteAt bs 4 ∧ audioSeq bs = byteAt bs 5 ++ byteAt bs 6
      ∧ audioPtPresent bs = (byteAt bs 7).getLsbD 0 ∧ audioRestart bs = (byteAt bs 7).getLsbD 1
      ∧ audioN bs = (byteAt bs 8).toNat + 1
      ∧ audioPt bs = byteAt bs 9 ++ byteAt bs 10 ++ byteAt bs 11 ++ byteAt bs 12 ++ byteAt bs 13 ++ byteAt bs 14) ∧
  ∀ (s : State) (now : Time) (e : IngressEntry) (rest : List IngressEntry),
    AtHead e rest s → Passes e s → frameKindByte e.bytes = 1 →
    let stream := audioStream e.bytes
    let gone := released rest (s.clockTo now)
    (e.disarmed = true → exec (.dispatch now) s = .next gone) ∧
    (e.disarmed = false →
      (∀ r c, (s.route r).state ≠ .free → (s.route r).config = some c → c.stream ≠ stream) →
      exec (.dispatch now) s = .next (gone.raise .streamUnknown)) ∧
    (∀ r c, (s.route r).state = .draining → (s.route r).config = some c → c.stream = stream →
      (∀ q c', (s.route q).taking = true → (s.route q).config = some c' → c'.stream ≠ stream) →
      exec (.dispatch now) s = .next gone) ∧
    ∀ (r : RouteId) (c : RouteConfig), HandedTo e r c s → e.disarmed = false →
      (c.mode = .sink ∧ audioPtPresent e.bytes = false ∨ c.mode = .source ∧ audioPtPresent e.bytes = true →
        exec (.dispatch now) s = .next (gone.bump r (fun k => { k with misdirected := countUp k.misdirected }))) ∧
      (c.mode = .sink ∧ audioPtPresent e.bytes = true ∨ c.mode = .source ∧ audioPtPresent e.bytes = false →
        32 * c.slotPages < audioN e.bytes → exec (.dispatch now) s = .next
          ((gone.bump r (fun k => { k with oversize := countUp k.oversize })).raise .frameOversize)) ∧
      (c.mode = .sink → audioPtPresent e.bytes = true → audioN e.bytes ≤ 32 * c.slotPages → (s.route r).state = .armed →
        8 ≤ c.depth → c.depth ≤ 64 → (∀ f, .valid f ∉ (s.route r).dir) → ∃ t, exec (.dispatch now) s = .next t ∧
          PlacementBegun e
            { seq := audioSeq e.bytes, pt := audioPt e.bytes, n := audioN e.bytes, restart := audioRestart e.bytes } r c
            ((s.clockTo now).setRoute r
              { s.route r with state := .live, release := some (audioSeq e.bytes - BitVec.ofNat 16 (c.depth / 4)) }) t)

/-- R29, R93, R94, R109, R117 to R119, R122: an AUDIO frame that a LIVE SINK route admits is late, ahead, a duplicate, or
stored, after a slide where it lies D or more ahead and no lane consumes the route. A stored frame's entry becomes IN
PLACEMENT, the placement is in flight, its first write granted where the memory is free and no lane waits, and the ingress
entry is held. The stored form of a payload is, for each sample time, its values as 24-bit numbers, a 16-bit value times 256,
a mono value in both; its bytes lie as log entry 8 has them. -/
def Obligations.AudioPlacementDecided : Prop :=
  (∀ (stereo wide : Bool) (n : Nat) (payload : List Byte),
    let width := if wide then 3 else 2
    let span := if stereo then 2 * width else width
    let value : Nat → Int := fun p =>
      if wide then (byteAt payload p ++ byteAt payload (p + 1) ++ byteAt payload (p + 2)).toInt
      else (byteAt payload p ++ byteAt payload (p + 1)).toInt * 256
    payload.length = n * span → (storedPairs stereo wide n payload).length = n ∧
      ∀ k, k < n → ∃ x, (storedPairs stereo wide n payload)[k]? = some x ∧ x.left.toInt = value (k * span)
        ∧ x.right.toInt = value (if stereo then k * span + width else k * span)) ∧
  ∀ (s : State) (now : Time) (e : IngressEntry) (rest : List IngressEntry) (r : RouteId) (c : RouteConfig) (rp : Seq),
    AtHead e rest s → Passes e s → HandedTo e r c s → e.disarmed = false → (s.route r).state = .live → c.mode = .sink →
    audioPtPresent e.bytes = true → audioN e.bytes ≤ 32 * c.slotPages → (s.route r).release = some rp →
    ∃ t, exec (.dispatch now) s = .next t ∧
      PlacementDecided e rest
        { seq := audioSeq e.bytes, pt := audioPt e.bytes, n := audioN e.bytes, restart := audioRestart e.bytes } r c rp
        (s.clockTo now) t

/-- R26, R93 step 4, R95 to R99, R117 to R119: a frame admitted on a SOURCE route is stamped: the presentation time runs on
from the last frame's while the slack lies in its band, and starts again at the arrival's group time plus the lead otherwise;
the stamp record and the sequence advance; the stamped copy joins the SOURCE class, or is dropped with FORWARD_DROPPED. An
ARMED route becomes LIVE, its release point D/4 before the sequence given. Then the stamped frame is placed in the part's own
store: late, ahead, a duplicate, or stored (bytes as log entry 8 has them), after a slide or without one. -/
def Obligations.SourceFrameStamped : Prop :=
  ∀ (s : State) (now : Time) (e : IngressEntry) (rest : List IngressEntry) (r : RouteId) (c : RouteConfig) (q rp : Seq)
    (lead : Nat) (m : TimelineMap),
    AtHead e rest s → Passes e s → HandedTo e r c s → e.disarmed = false →
    c.mode = .source → c.lead = some lead → audioPtPresent e.bytes = false → audioN e.bytes ≤ 32 * c.slotPages →
    (s.slot c.slot).map = some m → (s.route r).nextSeq = some q →
    ((s.route r).state = .armed → rp = q - BitVec.ofNat 16 (c.depth / 4)) →
    ((s.route r).state = .live → (s.route r).release = some rp) →
    let ga := m.convert e.stamp
    let afresh := addTicks ga lead
    let stamp : Time × Bool × Bool :=
      match (s.route r).lastStamp with
      | none => (afresh, true, false)
      | some (pt, n) =>
        if audioRestart e.bytes then (afresh, true, false)
        else
          let expected := addTicks pt ((n : Int) * 512)
          let slack := timeDist ga expected
          if (lead : Int) ≤ 4 * slack ∧ slack ≤ 2 * lead then (expected, false, false) else (afresh, true, true)
    let copy : List Byte := [1, 15, s.pins.linkAddress] ++ (e.bytes.drop 3).take 2 ++ beBytes 2 q.toNat
      ++ [BitVec.ofNat 8 (1 + (if stamp.2.1 then 2 else 0) + (if audioStereo e.bytes then 4 else 0)
            + (if audioWide e.bytes then 8 else 0)), byteAt e.bytes 8]
      ++ beBytes 6 stamp.1.toNat ++ e.bytes.drop 9
    let k := (s.route r).counters
    let stamped : State :=
      { (s.clockTo now).setRoute r
          { s.route r with
            state := .live, release := some rp, nextSeq := some (q + 1), lastStamp := some (stamp.1, audioN e.bytes)
            counters := { k with restamped := if stamp.2.2 then countUp k.restamped else k.restamped } } with
        tx := if s.tx.src.length < 4 then { s.tx with src := s.tx.src ++ [copy] } else s.tx
        cond := { s.cond with
          present := s.cond.present ||| (if stamp.2.2 then Condition.mask .restamped else 0)
            ||| (if s.tx.src.length < 4 then 0 else Condition.mask .forwardDropped) } }
    ∃ t, exec (.dispatch now) s = .next t ∧
      PlacementDecided e rest { seq := q, pt := stamp.1, n := audioN e.bytes, restart := stamp.2.1 } r c rp stamped t

/-! ### Discipline and the lock machine -/

/-- R67, R68, R70 to R74, R76, R77, R82: a completed filter block of a slot in TRACK or LOCKED that is not gross. The result
is E and P of the block; the integrator, trim and map follow the response position's shifts; the window test moves the runs
and the lock state, a change of state setting both runs to 0. The frame in hand is released (log entry 4). -/
def Obligations.FilterResultDisciplined : Prop :=
  ∀ (s : State) (i : SlotId) (c : SlotConfig) (t4 : Time) (m : TimelineMap) (a b : Nat),
    s.pins.inReset = false → (s.slot i).blockDone = some t4 → (s.slot i).config = some c → configInRange c = true →
    (s.slot i).map = some m → (s.slot i).state = .track ∨ (s.slot i).state = .locked →
    [(0, 0), (1, 1), (1, 2), (2, 3), (3, 4)][c.response]? = some (a, b) →
    let g := s.slot i
    let raw : Int :=
      match c.filterN with
      | 1 => g.errSum * 4
      | 2 => g.errSum * 2
      | 3 => g.errSum
      | n => (g.errSum + 2 ^ (n - 4)) / 2 ^ (n - 3)
    let e := clampInt (-134217728) 134217728 raw
    let integ := clampInt (-2097152) 2097152 (g.integrator + e * 8 / 2 ^ b)
    let inside := decide (e.natAbs ≤ c.window)
    let ins := if inside then countUp g.insideRun else 0
    let out := if inside then 0 else countUp g.outsideRun
    let locks := g.state == .track && inside && decide (c.lockCount ≤ ins)
    let unlocks := g.state == .locked && !inside && decide (c.unlockCount ≤ out)
    e.natAbs < 16777216 → exec (.filterBlockComplete i) s = .next
      { s.setSlot i
          { g with
            integrator := integ
            map := some { al := t4, ag := addTicks (m.convert t4) (e / 2 ^ (a + 4)),
                          trim := clampInt (-8192) 8192 (integ / 256) }
            errSum := 0, pathSum := 0, accepted := 0, rejected := 0, blockDone := none, ready := true
            lastResult := some { e := e, p := g.pathSum / 2 ^ c.filterN, n := 2 ^ c.filterN, rejected := g.rejected }
            state := if locks then .locked else if unlocks then .track else g.state
            insideRun := if locks || unlocks then 0 else ins
            outsideRun := if locks || unlocks then 0 else out } with
        rx := if s.rx.hand = some (.timingUnit i) then { s.rx with ingress := s.rx.ingress.tail, hand := none } else s.rx
        cond := { s.cond with
          present := s.cond.present ||| Condition.mask .measureReady ||| (if locks then Condition.mask .lockGained else 0)
            ||| (if unlocks then Condition.mask .lockLost else 0) } }

/-- R68, R74, R78, R82, R84, R115: a gross result, |E| of 2^24 sixteenths or more. It is published; the slot enters ACQUIRE
without a map, its integrator and delay history kept; LOCK_LOST is raised from LOCKED alone; every lane bound to a route on
the slot is signalled and no other lane is touched. A route follows the holds that remain, the order of several lanes being
log entry 23's. Its row performs the act (log entry 4). -/
def Obligations.GrossResultReacquires : Prop :=
  ∀ (s : State) (i : SlotId) (c : SlotConfig) (t4 : Time),
    s.pins.inReset = false → (s.slot i).blockDone = some t4 → (s.slot i).config = some c →
    (s.slot i).state = .track ∨ (s.slot i).state = .locked →
    let g := s.slot i
    let e := clampInt (-134217728) 134217728 (meanError c.filterN g.errSum)
    16777216 ≤ e.natAbs → ∃ t : State, exec (.filterBlockComplete i) s = .next t ∧
      t.slot i =
        { g with
          state := .acquire, map := none, insideRun := 0, outsideRun := 0
          errSum := 0, pathSum := 0, accepted := 0, rejected := 0, blockDone := none, ready := true
          lastResult := some { e := e, p := g.pathSum / 2 ^ c.filterN, n := 2 ^ c.filterN, rejected := g.rejected } } ∧
      (∀ j, j ≠ i → t.slot j = s.slot j) ∧
      (∀ j, onSlot i s j → t.lane j = afterWaitCause s.time.lmc (s.lane j)) ∧
      (∀ j, ¬ onSlot i s j → t.lane j = s.lane j) ∧
      t.rx = (if s.rx.hand = some (.timingUnit i) then { s.rx with ingress := s.rx.ingress.tail, hand := none } else s.rx) ∧
      t.cond = { s.cond with
        present := s.cond.present ||| Condition.mask .measureReady
          ||| (if g.state = .locked then Condition.mask .lockLost else 0) } ∧
      PrimeLeft (onSlot i s) s t ∧
      { t with slots := s.slots, rx := s.rx, cond := s.cond, lanes := s.lanes, routes := s.routes } = s

/-- R79, R81, R82, R84, R115: the lost count of a slot in TRACK or LOCKED having reached holdover-enter, the slot enters
HOLDOVER with HOLDOVER_ENTERED, map, integrator and filter kept, LOCK_LOST not raised; that of a slot in HOLDOVER having
reached the holdover limit, the slot enters ACQUIRE without a map, LEADER_LOST is raised, and every lane bound to a route on
it is signalled, a route following the holds that remain, the order of several lanes being log entry 23's. Each row performs
its act (log entry 4). -/
def Obligations.LossTransitions : Prop :=
  (∀ (s : State) (i : SlotId), s.pins.inReset = false → (s.slot i).lossDue = some .holdover →
    (s.slot i).state = .track ∨ (s.slot i).state = .locked →
    exec (.holdoverEntered i) s = .next
      ((s.setSlot i { s.slot i with state := .holdover, insideRun := 0, outsideRun := 0, lossDue := none }).raise
        .holdoverEntered)) ∧
  (∀ (s : State) (i : SlotId), s.pins.inReset = false → (s.slot i).lossDue = some .leaderLost →
    (s.slot i).state = .holdover → ∃ t : State, exec (.leaderLost i) s = .next t ∧
      t.slot i = { s.slot i with state := .acquire, map := none, insideRun := 0, outsideRun := 0, lossDue := none } ∧
      (∀ j, j ≠ i → t.slot j = s.slot j) ∧
      (∀ j, onSlot i s j → t.lane j = afterWaitCause s.time.lmc (s.lane j)) ∧
      (∀ j, ¬ onSlot i s j → t.lane j = s.lane j) ∧
      t.cond = { s.cond with present := s.cond.present ||| Condition.mask .leaderLost } ∧
      PrimeLeft (onSlot i s) s t ∧
      { t with slots := s.slots, cond := s.cond, lanes := s.lanes, routes := s.routes } = s)

/-! ### Due events -/

/-- R35, R52, R55, R56, R58: at a counter value not yet taken at which tick bits rise, every follower slot in TICK mode whose
bit rises has a due event, and no other slot changes: with no record, or after an OUTSTANDING one counted lost, a new record
is QUEUED under the next sequence; a QUEUED one stands. The soundings made join the SOUNDING class, one for each new record
whose slot has none there. The order of the slots is the command's, the others following in slot order, which is the model's
choice (log entry 9). -/
def Obligations.TickMakesDue : Prop :=
  ∀ (s : State) (now : Time) (order : List SlotId), Ready s → now ≠ s.time.lmc ∨ s.time.tickTaken = false →
    ∃ t : State, exec (.tickDue now order) s = .next t ∧ t.time = { (s.clockTo now).time with tickTaken := true } ∧
      (∀ i c, (s.slot i).role = some .follower → (s.slot i).config = some c → c.mode = .tick →
        now.toNat % 2 ^ (c.tickBit + 1) = 2 ^ c.tickBit → t.slot i = afterDue c (s.slot i)) ∧
      (∀ i, ((s.slot i).role ≠ some .follower ∨ ∀ c, (s.slot i).config = some c →
        c.mode ≠ .tick ∨ now.toNat % 2 ^ (c.tickBit + 1) ≠ 2 ^ c.tickBit) → t.slot i = s.slot i) ∧
      { t with time := s.time, slots := s.slots, tx := { t.tx with snd := s.tx.snd } } = s ∧
      ∃ made : List SlotId, (∀ i, i ∈ made ↔ tickOffers now s i) ∧
        made.Pairwise (fun i j => (order ++ [0, 1, 2, 3]).idxOf i < (order ++ [0, 1, 2, 3]).idxOf j) ∧
        t.tx.snd = s.tx.snd ++ made.filterMap (fun i =>
          (s.slot i).config.map (fun c => soundingOf i s.pins.linkAddress c (s.slot i)))

/-- R53, R55, R57, R58, R79, R81: an armed STREAM due event occurs when the counter takes its value; in a follower slot
without a record it makes one and offers the SOUNDING, built for the slot's leader with t1 0. The counter taking the deadline
of an OUTSTANDING record removes it and raises the lost count, which calls for HOLDOVER in TRACK and LOCKED from
holdover-enter on, and for the loss of the leader in HOLDOVER from the holdover limit on; in STREAM mode the next sounding is
then armed for t1 + 2^16 while that lies ahead, and is due at once otherwise. -/
def Obligations.StreamDueAndTimeout : Prop :=
  (∀ (s : State) (now : Time) (i : SlotId) (c : SlotConfig), Ready s → (s.slot i).streamDue = some now →
    (s.slot i).role = some .follower → (s.slot i).config = some c → (s.slot i).record = none →
    (∀ e ∈ s.tx.snd, e.slot ≠ i) →
    let g := s.slot i
    exec (.streamDue now i) s = .next
      { (s.clockTo now).setSlot i
          { g with streamDue := none, record := some (.queued g.seqCounter), seqCounter := g.seqCounter + 1 } with
        tx := { s.tx with snd := s.tx.snd ++ [
          { slot := i, seq := g.seqCounter
            bytes := [2, c.leader, s.pins.linkAddress, g.tag, g.seqCounter, 0, 0, 0, 0, 0, 0] }] } }) ∧
  (∀ (s : State) (now : Time) (i : SlotId) (c : SlotConfig) (seq : BitVec 8) (t1 : Time), Ready s →
    (s.slot i).record = some (.outstanding seq t1 now) → (s.slot i).config = some c →
    let lost : GroupSlot :=
      { s.slot i with
        record := none, lost := countUp (s.slot i).lost
        lossDue :=
          if ((s.slot i).state = .track ∨ (s.slot i).state = .locked) ∧ c.holdoverEnter ≤ countUp (s.slot i).lost then
            some .holdover
          else if (s.slot i).state = .holdover ∧ c.holdoverLimit ≤ countUp (s.slot i).lost then some .leaderLost
          else none }
    (c.mode ≠ .stream → exec (.soundingTimeout now i) s = .next ((s.clockTo now).setSlot i lost)) ∧
    (c.mode = .stream → timeDist (t1 + 65536) now < 0 →
      exec (.soundingTimeout now i) s = .next ((s.clockTo now).setSlot i { lost with streamDue := some (t1 + 65536) })) ∧
    (c.mode = .stream → 0 ≤ timeDist (t1 + 65536) now → (s.slot i).role = some .follower →
      (∀ e ∈ s.tx.snd, e.slot ≠ i) → exec (.soundingTimeout now i) s = .next
      { (s.clockTo now).setSlot i
          { lost with record := some (.queued lost.seqCounter), seqCounter := lost.seqCounter + 1 } with
        tx := { s.tx with snd := s.tx.snd ++ [
          { slot := i, seq := lost.seqCounter
            bytes := [2, c.leader, s.pins.linkAddress, lost.tag, lost.seqCounter, 0, 0, 0, 0, 0, 0] }] } }))

/-! ### The jitter store -/

/-- R103, R104, R112, R119, R121, R122, R125: the end of a burst. A write's bytes read back and no other byte of the memory
changes; the placement counts the page, or, abandoned, is dropped: its entry INVALID, no counter, the ingress entry released,
and its route, if DRAINING with no lane left, becomes FREE, a SLOT-PEEK waiting on it being withdrawn. Then the memory is
granted again. A write lands whole at its end (log entry 12); an abandoned placement is dropped there (log entry 17); a
SLOT-PEEK that waits is granted by its own command and not here, so that with no read and no placement the memory is left
free (log entry 16). -/
def Obligations.StoreBurstEnds : Prop :=
  ∀ (s : State) (b : Burst), Ready s → s.store.burst = some b →
    ∃ t : State, exec .storeBurstEnd s = .next t ∧
      (∀ base bytes, b = .write base bytes →
        (∀ k, k < bytes.length → base + k < 262144 → Memory.readByte t.store.mem (base + k) = bytes.getD k 0) ∧
        (∀ a, a < base ∨ base + bytes.length ≤ a → Memory.readByte t.store.mem a = Memory.readByte s.store.mem a) ∧
        (∀ p, s.store.placement = some p → p.abandoned = false →
          t.store.placement = some { p with written := p.written + 1 } ∧ t = { s with store := t.store }) ∧
        (∀ p, s.store.placement = some p → p.abandoned = true →
          let tr := s.route p.route
          t.store.placement = none ∧ t.rx = { s.rx with ingress := s.rx.ingress.tail, hand := none } ∧
            (tr.state ≠ .draining ∨ s.hasLane p.route = true →
              t.routes = (s.setRoute p.route { tr with dir := tr.dir.set p.index .invalid }).routes
                ∧ t.store.pages = s.store.pages ∧ t.mgmt = s.mgmt ∧ t.tx = s.tx) ∧
            (∀ c, tr.state = .draining → s.hasLane p.route = false → tr.config = some c → RouteFreed p.route c s t) ∧
            (∀ r, r ≠ p.route → t.route r = s.route r) ∧
            { t with store := s.store, rx := s.rx, routes := s.routes, mgmt := s.mgmt, tx := s.tx } = s)) ∧
      ((∀ base bytes, b ≠ .write base bytes) → t = { s with store := t.store } ∧ t.store.mem = s.store.mem
        ∧ t.store.placement = s.store.placement) ∧
      Granted { t.store with burst := none, reads := s.store.reads } t.store

/-- R120: the placement whose last burst has ended is settled: VALID and counted accepted, or, where the release point has
passed its sequence, INVALID, counted late, with FRAME_LATE. The ingress entry is released (log entry 4). -/
def Obligations.PlacementSettled : Prop :=
  ∀ (s : State) (p : Placement) (rp : Seq), s.pins.inReset = false → s.store.placement = some p → p.abandoned = false →
    (p.frame.n + 31) / 32 ≤ p.written → (s.route p.route).release = some rp →
    let tr := s.route p.route
    let entry : DirEntry → RouteCounters → State := fun x k =>
      { s.setRoute p.route { tr with dir := tr.dir.set p.index x, counters := k } with
        store := { s.store with placement := none }
        rx := { s.rx with ingress := s.rx.ingress.tail, hand := none } }
    (0 ≤ seqDist rp p.frame.seq → exec .placementComplete s = .next
      (entry (.valid p.frame) { tr.counters with accepted := countUp tr.counters.accepted })) ∧
    (seqDist rp p.frame.seq < 0 → exec .placementComplete s = .next
      ((entry .invalid { tr.counters with late := countUp tr.counters.late }).raise .frameLate))

/-! ### The link transmitter -/

/-- R13, R15, R16, R57: a SOUNDING departs, its t1 field the LMC value of its SOF (word 0x1A5), and the slot's record, if
QUEUED with the entry's sequence, becomes OUTSTANDING with that t1 and the deadline t1 plus the return timeout. RETURN
entries whose slot no longer leads under their tag are removed without a condition: where none stands the SOUNDING departs,
and otherwise the first that stands, with t3, AG plus the signed distance from AL to the LMC value of its SOF. The words
shown are those of the last departure command (log entry 13). -/
def Obligations.TimingFramesDepart : Prop :=
  (∀ (s : State) (now : Time) (e : SoundingEntry) (rest : List SoundingEntry), Ready s → s.tx.departing = none →
    s.pins.txhold = false → s.tx.snd = e :: rest →
    (∀ x ∈ s.tx.ret, (s.slot x.slot).tag = 0 ∨ (s.slot x.slot).tag ≠ x.tag ∨ (s.slot x.slot).state ≠ .leading) →
    let g := s.slot e.slot
    let sent : Transmitter :=
      { s.tx with
        ret := [], snd := rest
        departing := some { cls := .sounding, bytes := e.bytes.take 5 ++ beBytes 6 now.toNat ++ e.bytes.drop 11 }
        words := [0x1A5] }
    (∀ c, g.record = some (.queued e.seq) → g.config = some c → exec (.departureStart now) s = .next
      { (s.clockTo now).setSlot e.slot
          { g with record := some (.outstanding e.seq now (now + BitVec.ofNat 48 c.timeout)) } with tx := sent }) ∧
    (g.record ≠ some (.queued e.seq) → exec (.departureStart now) s = .next { s.clockTo now with tx := sent })) ∧
  (∀ (s : State) (now : Time) (stale rest : List ReturnEntry) (e : ReturnEntry) (m : TimelineMap), Ready s →
    s.tx.departing = none → s.pins.txhold = false → s.tx.ret = stale ++ e :: rest →
    (∀ x ∈ stale, (s.slot x.slot).tag = 0 ∨ (s.slot x.slot).tag ≠ x.tag ∨ (s.slot x.slot).state ≠ .leading) →
    (s.slot e.slot).tag ≠ 0 → (s.slot e.slot).tag = e.tag → (s.slot e.slot).state = .leading →
    (s.slot e.slot).map = some m → m.trim = 0 →
    exec (.departureStart now) s = .next
      { s.clockTo now with
        tx := { s.tx with
          ret := rest
          departing := some
            { cls := .ret
              bytes := e.bytes.take 17 ++ beBytes 6 (m.ag + (now - m.al)).toNat ++ e.bytes.drop 23 }
          words := [0x1A5] } })

/-- R10, R13, R14, R16, R18: SOURCE frames depart when no RETURN stands and no SOUNDING waits, REPLY frames when no SOURCE
frame waits either; TXHOLD, a frame in departure or empty classes start nothing. The line is silent in reset (the internal
power-up reset by log entry 28), carries IDLE words, 0x13C, in FREE, held or not, and a frame's data words and EOF in
SENDING. TXHOLD's edges set the pin alone: that the selection at its release waits for DEPARTURE_START is the model's choice
(log entry 3). `tx.words` are those of the last departure command (log entry 13). -/
def Obligations.DepartureOrder : Prop :=
  (∀ s : State, exec .txholdAssert s = .next { s with pins := { s.pins with txhold := true } }
    ∧ exec .txholdRelease s = .next { s with pins := { s.pins with txhold := false } }) ∧
  (∀ s : State, (s.pins.inReset = true → s.txLine = .silent) ∧
    (s.pins.inReset = false → s.tx.departing = none → s.txLine = .idle 0x13C) ∧
    (∀ d, s.pins.inReset = false → s.tx.departing = some d → s.txLine = .frame (d.bytes.map dataWord ++ [0x15A]))) ∧
  ∀ (s : State) (now : Time), Ready s →
    (s.pins.txhold = true ∨ s.tx.departing.isSome = true → exec (.departureStart now) s = .next (s.clockTo now)) ∧
    (s.pins.txhold = false → s.tx.departing = none → s.tx.snd = [] →
      (∀ x ∈ s.tx.ret, (s.slot x.slot).tag = 0 ∨ (s.slot x.slot).tag ≠ x.tag ∨ (s.slot x.slot).state ≠ .leading) →
      (∀ b rest, s.tx.src = b :: rest → exec (.departureStart now) s = .next
        { s.clockTo now with
          tx := { s.tx with
            ret := [], src := rest, departing := some { cls := .source, bytes := b }, words := [0x1A5] } }) ∧
      (∀ b rest, s.tx.src = [] → s.tx.rep = b :: rest → exec (.departureStart now) s = .next
        { s.clockTo now with
          tx := { s.tx with
            ret := [], rep := rest, departing := some { cls := .reply, bytes := b }, words := [0x1A5] } }) ∧
      (s.tx.src = [] → s.tx.rep = [] →
        exec (.departureStart now) s = .next { s.clockTo now with tx := { s.tx with ret := [] } }))

/-- R10, R17, R19, R193, R194: a departure ends with the frame's bytes as data words of odd parity and EOF, 0x15A. The end of
the reply that a waiting DEVICE-RESET rides on (log entry 18) takes the part to its DEVICE-RESET values: timebase, straps and
pins, frames under way on the ports and store memory kept, all else as after reset. Three clauses are the model's choice:
that no next frame is selected until a DEPARTURE_START (log entry 3), that `tx.words` shows the words of this event (log
entry 13), and that the command queue stays (log entry 20). -/
def Obligations.DepartureEnds : Prop :=
  (∀ b : Byte, goodParity (dataWord b) = true ∧ (dataWord b).getLsbD 8 = false ∧ (dataWord b).setWidth 8 = b) ∧
  ∀ (s : State) (d : Departing), Ready s → s.tx.departing = some d →
    let words : List LinkWord := d.bytes.map dataWord ++ [0x15A]
    (¬ (d.cls = .reply ∧ s.mgmt.phase = .resetWait ∧ s.tx.rep = []) →
      exec .departureEnd s = .next { s with tx := { s.tx with departing := none, words := words } }) ∧
    (d.cls = .reply → s.mgmt.phase = .resetWait → s.tx.rep = [] → exec .departureEnd s = .next
      { State.reset with
        time := s.time, pins := s.pins, pending := s.pending
        tx := { State.reset.tx with words := words }
        store := { State.reset.store with mem := s.store.mem }
        out := { s.out with reg := State.reset.out.reg }
        sense := s.sense.map
          (fun x => { pin := x.pin, accepted := false, run := 0, action := .none, latch := false }) })

/-! ### Lanes and the output stage -/

/-- R169, with the channel plan and the attenuation of section 10.1: the output arithmetic on a pair: channel plan, shift by
the concealment depth, gain, ramp level, saturation to 24 bits, each division rounding down. -/
def Obligations.OutputArithmetic : Prop :=
  ∀ (sh : Shaping) (l r : Int),
    let ramped : Int → Int := fun v =>
      match sh.ramp with
      | none => v
      | some (.up m) => v * m / 64
      | some (.down _ m _) => v * (64 - m) / 64
    let shaped : Int → Int := fun v =>
      max (-8388608) (min 8388607 (ramped (v / 2 ^ sh.depth * sh.gain / 32768)))
    let planned : Int × Int :=
      match sh.plan with
      | .stereo => (l, r)
      | .left => (l, l)
      | .right => (r, r)
      | .mix => ((l + r) / 2, (l + r) / 2)
    (shapePair sh l r).left.toInt = shaped planned.1 ∧ (shapePair sh l r).right.toInt = shaped planned.2

/-- R34, R115, R149, R150, R166, R171, R175: an output instant that is due. Each port's next frame carries the register as it
stood; the register of a lane in STOP or WAIT takes silence, such a lane asks for no read, and the record of a lane in STOP
stands; the sense pins are sampled; the memory is granted where it is free. Group slots, receiver, source class, store memory
and timebase state are kept. With the operand `first` clear the inputs sampled are accepted after the lanes' steps; with it
set they are accepted first, a mute moving the lanes (in the order of log entry 23), and the lanes then step as in an instant
of the part so left (the order is the sender's, log entry 9). At any other counter value, or where the instant has been
taken, only the counter moves. -/
def Obligations.InstantTaken : Prop :=
  ∀ (s : State) (now : Time) (sns0 sns1 first : Bool), Ready s →
    (InstantDue now s → ∃ t : State, exec (.outputInstant now sns0 sns1 first) s = .next t ∧
      t.time = { (s.clockTo now).time with instantTaken := true } ∧
      (∀ i : LaneId, t.out.frame[i] = s.out.reg[i]) ∧
      (∀ i : LaneId, (s.lane i).state = .stop → t.lane i = s.lane i) ∧
      (∀ i : LaneId, (s.lane i).state = .stop ∨ (s.lane i).state = .wait → t.out.reg[i] = { left := 0, right := 0 }) ∧
      (∃ reads : Vector (List Nat) 4,
        (∀ i : LaneId, (s.lane i).state = .stop ∨ (s.lane i).state = .wait → reads[i] = []) ∧
        Granted { s.store with reads := reads, pages := t.store.pages } t.store) ∧
      (let x := sampledInput sns0 (s.input 0)
       let y := sampledInput sns1 (s.input 1)
       t.input 0 = (if first then acceptedInput x else x) ∧ t.input 1 = (if first then acceptedInput y else y)) ∧
      t.pins = s.pins ∧ t.rx = s.rx ∧ t.slots = s.slots ∧ t.tx.src = s.tx.src ∧ t.tx.snd = s.tx.snd
        ∧ t.tx.ret = s.tx.ret ∧ t.tx.departing = s.tx.departing ∧ t.store.mem = s.store.mem
        ∧ t.store.placement = s.store.placement ∧ t.pending = s.pending) ∧
    (InstantDue now s → ∃ v t' : State, SensesTaken sns0 sns1 (s.clockTo now) v ∧
      exec (.outputInstant now sns0 sns1 false) v = .next t' ∧
      exec (.outputInstant now sns0 sns1 true) s = .next { t' with sense := v.sense }) ∧
    (¬ InstantDue now s → exec (.outputInstant now sns0 sns1 first) s = .next (s.clockTo now))

/-- R130, R132, R136 to R138, R141: at an output instant the playhead of a lane in PLAY or RAMPDOWN advances by 2^25 units
plus twice the trim plus the slew for its error, floor(error / 4,096) held to ±16,384, and by 2^25 exactly where its slot has
no map, and the lane is left in PLAY or RAMPDOWN. The one exception is a lane in RAMPDOWN at its 64th step with a bound lane
after it: its ramp ends before that lane acts, and it is left in WAIT or STOP with no playhead; with no bound lane after it
the end is still due (log entry 4). -/
def Obligations.PlayheadAdvances : Prop :=
  ∀ (s : State) (now : Time) (sns0 sns1 first : Bool) (i : LaneId) (r : RouteId) (c : RouteConfig) (h : Playhead),
    Ready s → InstantDue now s → (s.lane i).state = .play ∨ (s.lane i).state = .rampdown →
    (s.lane i).route = some r → (s.route r).config = some c → (s.lane i).playhead = some h →
    let advance : Int :=
      match (s.slot c.slot).map with
      | none => 33554432
      | some m =>
        let target := m.convert (now + BitVec.ofNat 48 (s.lane i).delay)
        33554432 + 2 * m.trim + max (-16384) (min 16384 (headDist h (timeToHead target) / 4096))
    let ends : Prop := (s.lane i).state = .rampdown ∧ (∃ level dest, (s.lane i).ramp = some (.down 64 level dest))
      ∧ ∃ j, i < j ∧ (s.lane j).state ≠ .stop
    ∃ t : State, exec (.outputInstant now sns0 sns1 first) s = .next t ∧
      (¬ ends → (t.lane i).playhead = some (h + BitVec.ofInt 64 advance)
        ∧ ((t.lane i).state = .play ∨ (t.lane i).state = .rampdown)) ∧
      (ends → (t.lane i).playhead = none ∧ ((t.lane i).state = .wait ∨ (t.lane i).state = .stop))

/-- R115, R142, R143, R145, R152, R153, R155 to R157, R162: one frame entry of a lane in PLAY or RAMPDOWN. A staged change
lands first, in PLAY. A next frame present and continuous is entered; a discontinuous one is concealed and, in PLAY, begins a
ramp-down to WAIT; an absent one is concealed, and in PLAY with the run at the limit the lane starves as well: STARVED and a
ramp-down. A concealment is counted and raises CONCEALED. The release point follows the earliest hold. -/
def Obligations.FrameEntryMade : Prop :=
  ∀ (s : State) (i : LaneId) (r : RouteId) (c : RouteConfig) (f : CurrentFrame), (s.lane i).route = some r →
    (s.route r).config = some c → (s.lane i).current = some f → (s.lane i).state = .play ∨ (s.lane i).state = .rampdown →
    let t := s.frameEntry i
    let l := stagedLanded r s (s.lane i)
    let counted : RouteCounters := { (s.route r).counters with concealed := countUp (s.route r).counters.concealed }
    let with' : BitVec 32 → Conditions := fun raised => { s.cond with present := s.cond.present ||| raised }
    let starves : Prop := l.state = .play ∧ c.concealLimit ≤ l.concealedRun
    (∀ g, continuousNext (s.route r) c f = some g →
      t.lane i = entering g l ∧ t.cond = s.cond ∧ (t.route r).counters = (s.route r).counters) ∧
    (discontinuousNext (s.route r) c f →
      t.lane i = concealing c f (if l.state = .play then rampingDown .wait l else l)
        ∧ t.cond = with' (Condition.mask .concealed) ∧ (t.route r).counters = counted) ∧
    (continuousNext (s.route r) c f = none → ¬ discontinuousNext (s.route r) c f →
      (starves → t.lane i = concealing c f (rampingDown .wait l)
        ∧ t.cond = with' (Condition.mask .starved ||| Condition.mask .concealed)) ∧
      (¬ starves → t.lane i = concealing c f l ∧ t.cond = with' (Condition.mask .concealed)) ∧
      (t.route r).counters = counted) ∧
    ReleaseFollowed (t.holds r) (s.route r) (t.route r) ∧
    t.route r = { s.route r with
      counters := (t.route r).counters, release := (t.route r).release, dir := (t.route r).dir } ∧
    (∀ q, q ≠ r → t.route q = s.route q) ∧ (∀ j, j ≠ i → t.lane j = s.lane j) ∧
    { t with lanes := s.lanes, routes := s.routes, cond := s.cond } = s

/-- R34, R122, R130, R134, R136 to R140, R142, R144, R146 to R150, R153, R154: the step of a lane in PLAY or RAMPDOWN, or of
one in PRIME whose target has reached its frame, the other lanes in STOP: a realign, REALIGNED with a ramp-down, where a lane
in PLAY lies more than 2^33 units from its target; the frame entries of the step; the pair at the playhead, look-ahead and
concealment included, shaped and handed on; the ramp's advance; and the playhead's, by 2^25 units plus twice the trim plus
the slew. It asks for each page read, the memory being granted where it is free. Samples are read at the instant (log entry
11), in the layout of log entry 8, x_i's page asked for first (log entry 25); the sense pins are taken after the lanes (log
entry 9). -/
def Obligations.LaneSteps : Prop :=
  ∀ (s : State) (now : Time) (sns0 sns1 : Bool) (i : LaneId) (r : RouteId) (c : RouteConfig) (f : CurrentFrame),
    Ready s → InstantDue now s → (∀ j, j ≠ i → (s.lane j).state = .stop) → (s.lane i).route = some r →
    (s.route r).config = some c → (s.lane i).current = some f →
    let u : State := { s.clockTo now with time := { (s.clockTo now).time with instantTaken := true } }
    let target : TimelineMap → Time := fun m => m.convert (now + BitVec.ofNat 48 (s.lane i).delay)
    (∀ h : Playhead, (s.lane i).state = .play ∨ (s.lane i).state = .rampdown → (s.lane i).playhead = some h →
      ((s.slot c.slot).map = none → ∃ t : State, exec (.outputInstant now sns0 sns1 false) s = .next t ∧
        StepMade i r c 33554432 u t ∧ ∀ j, j ≠ i → t.lane j = s.lane j) ∧
      (∀ m, (s.slot c.slot).map = some m →
        let error := headDist h (timeToHead (target m))
        ∃ t : State, exec (.outputInstant now sns0 sns1 false) s = .next t ∧
          StepMade i r c (33554432 + 2 * m.trim + max (-16384) (min 16384 (error / 4096)))
            (if (s.lane i).state = .play ∧ 2 ^ 33 < error.natAbs then
                (u.setLane i (rampingDown .wait (s.lane i))).raise .realigned
              else u) t ∧
          ∀ j, j ≠ i → t.lane j = s.lane j)) ∧
    (∀ m, (s.lane i).state = .prime → (s.slot c.slot).map = some m → 0 ≤ timeDist f.pt (target m) →
      ∃ t : State, exec (.outputInstant now sns0 sns1 false) s = .next t ∧
        StepMade i r c (33554432 + 2 * m.trim)
          (u.setLane i { s.lane i with state := .play, playhead := some (timeToHead (target m)), ramp := some (.up 1) }) t ∧
        ∀ j, j ≠ i → t.lane j = s.lane j)

/-- R129, R131 to R133, R115, R173: the start test of a lane in WAIT, the other lanes in STOP. On a LIVE route whose slot
admits a start, with no mute latched, the lane enters PRIME on the candidate, a VALID entry whose PT lies 1,024 ticks or more
after the target, at the smallest distance from the release point, which moves to it; where a condition fails it stays as it
is. The sense pins are taken after the lanes, a choice the spec leaves (log entry 9). -/
def Obligations.WaitingLaneStarts : Prop :=
  ∀ (s : State) (now : Time) (sns0 sns1 : Bool) (i : LaneId) (r : RouteId) (c : RouteConfig) (rp : Seq) (m : TimelineMap),
    Ready s → InstantDue now s → (s.lane i).state = .wait → (∀ j, j ≠ i → (s.lane j).state = .stop) →
    (s.lane i).route = some r → (s.route r).config = some c → (s.route r).release = some rp →
    (s.slot c.slot).map = some m →
    let target := m.convert (now + BitVec.ofNat 48 (s.lane i).delay)
    let candidate : StoredFrame → Prop := fun f =>
      .valid f ∈ (s.route r).dir ∧ 0 ≤ timeDist (target + 1024) f.pt
    let admits : Prop :=
      (s.slot c.slot).role = some .leader ∧ (s.slot c.slot).state = .leading
        ∨ (s.slot c.slot).role = some .follower ∧ (s.slot c.slot).state = .locked
    let open' : Prop :=
      (s.route r).state = .live ∧ admits ∧ (s.input 0).latch = false ∧ (s.input 1).latch = false
    (∀ f, open' → candidate f → (∀ g, candidate g → g = f ∨ seqDist rp f.seq < seqDist rp g.seq) →
      ∃ t : State, exec (.outputInstant now sns0 sns1 false) s = .next t ∧
        t.lane i =
          { s.lane i with
            state := .prime, current := some { seq := f.seq, pt := f.pt, n := f.n, kind := .present }
            repeatSrc := none, concealedRun := 0, holdTimer := none } ∧
        (t.route r).release = some (if 0 < seqDist rp f.seq then f.seq else rp) ∧
        ReleaseFollowed [f.seq] (s.route r) (t.route r)) ∧
    (¬ open' ∨ (∀ f, ¬ candidate f) →
      ∃ t : State, exec (.outputInstant now sns0 sns1 false) s = .next t ∧ t.lane i = s.lane i ∧ t.routes = s.routes)

/-- R130, R134, R136, R138, R139, R146 to R150: a lane in PRIME, the other lanes in STOP. Until its target reaches the start
frame's PT it hands on silence and asks for no read; then it enters PLAY with its playhead on the target, hands on the
interpolated pair of that instant at ramp-in level 1, and steps by 2^25 plus twice the trim. (The target lies inside the
frame, not in its last sample.) The samples are read at the instant (log entry 11), in the layout of log entry 8; the sense
pins are taken after the lanes (log entry 9). -/
def Obligations.PrimedLanePlays : Prop :=
  ∀ (s : State) (now : Time) (sns0 sns1 : Bool) (i : LaneId) (r : RouteId) (c : RouteConfig) (f : CurrentFrame)
    (m : TimelineMap),
    Ready s → InstantDue now s → (s.lane i).state = .prime → (∀ j, j ≠ i → (s.lane j).state = .stop) →
    (s.lane i).route = some r → (s.route r).config = some c → (s.slot c.slot).map = some m →
    (s.lane i).current = some f → f.kind = .present →
    let target := m.convert (now + BitVec.ofNat 48 (s.lane i).delay)
    let past := timeDist f.pt target
    (past < 0 → ∃ t : State, exec (.outputInstant now sns0 sns1 false) s = .next t ∧ t.lane i = s.lane i
      ∧ t.out.reg[i] = { left := 0, right := 0 } ∧ t.routes = s.routes
      ∧ Granted { s.store with reads := Vector.replicate 4 [] } t.store) ∧
    (∀ j : Nat, 0 ≤ past → past / 512 = j → j + 1 < f.n →
      let x := readStored s.store.mem (frameSampleAddress c f.seq j)
      let y := readStored s.store.mem (frameSampleAddress c f.seq (j + 1))
      let phi := past % 512 * 128
      let between : Sample → Sample → Int := fun a b => a.toInt + (b.toInt - a.toInt) * phi / 65536
      ∃ t : State, exec (.outputInstant now sns0 sns1 false) s = .next t ∧
        t.lane i =
          { s.lane i with
            state := .play
            playhead := some (timeToHead target + BitVec.ofInt 64 (33554432 + 2 * m.trim))
            ramp := some (.up 2) } ∧
        t.out.reg[i] = shapePair
          { plan := (s.lane i).plan, depth := (s.lane i).depth, gain := (s.lane i).gain, ramp := some (.up 1) }
          (between x.left y.left) (between x.right y.right) ∧ t.routes = s.routes)

/-- R103, R112, R115, R125, R129, R139, R141, R163, R173: once the sample of level 64 has been handed on, a ramp-in is absent
and nothing else changes. Once the 64th step of a ramp-down has been made, the lane enters its destination, stops consuming
and starts its hold, and its route follows the holds that remain; a staged change then lands, its route part only on an ARMED
or LIVE route; a DRAINING route left by its last lane, no placement being left, becomes FREE, its counters kept, its pages
given back, a SLOT-PEEK waiting on it withdrawn. Each row performs its act (log entry 4). -/
def Obligations.RampsEnd : Prop :=
  (∀ (s : State) (i : LaneId) (m : Nat), s.pins.inReset = false → (s.lane i).ramp = some (.up m) → 64 < m →
    exec (.rampInEnd i) s = .next (s.setLane i { s.lane i with ramp := none })) ∧
  (∀ (s : State) (i : LaneId) (r : RouteId) (count level : Nat) (dest : Destination), s.pins.inReset = false →
    (s.lane i).state = .rampdown → (s.lane i).ramp = some (.down count level dest) → 64 < count →
    (s.lane i).route = some r →
    let landed := stoppedConsuming s.time.lmc (s.lane i)
    let left : Lane := match dest with
      | .wait => { landed with state := .wait }
      | .stop => { landed with state := .stop, route := none }
    ∃ t : State, exec (.rampEnd i) s = .next t ∧
      t.lane i =
        (match (s.lane i).staged with
          | none => left
          | some v =>
            let l := { withSettings v left with staged := none }
            match v.route with
            | none => l
            | some q => if (s.route q).state = .armed ∨ (s.route q).state = .live
                then { l with route := some q, state := .wait } else l) ∧
      (∀ j, j ≠ i → t.lane j = s.lane j) ∧ (∀ q, q ≠ r → t.route q = s.route q) ∧
      (let last : Prop := (s.route r).state = .draining ∧ dest = .stop ∧ (∀ j, j ≠ i → (s.lane j).route ≠ some r)
          ∧ ∀ p, s.store.placement = some p → p.route ≠ r
       (¬ last → ReleaseFollowed (t.holds r) (s.route r) (t.route r)
          ∧ t.route r = { s.route r with release := (t.route r).release, dir := (t.route r).dir }
          ∧ t.store = s.store ∧ t.mgmt = s.mgmt ∧ t.tx = s.tx) ∧
       (∀ c, (s.route r).config = some c → last → RouteFreed r c s t)) ∧
      t.slots = s.slots ∧ t.cond = s.cond ∧ t.out = s.out ∧ t.rx = s.rx ∧ t.time = s.time)

/-- R35, R170 to R174: the counter takes the value at which a hold timer expires: the timer stops; at another value nothing
expires. A lane's enable is asserted in ON, and in AUTO while it is in PRIME, PLAY or RAMPDOWN or its timer runs. In reset,
the internal power-up reset included by the model's choice (log entry 28), the AEN pins are not driven and SCLK, SFRM and the
SP lines are low; outside it AENPOL gives the AEN pins their level, SCLK rises at counter values that leave 4 on division by
8 and falls at those that leave 0, SFRM rises at those that leave 256 on division by 512, and each bit period of 8 counts
carries one bit of the port's frame: 24 bits of the left value, the most significant first, eight 0 bits, and the right value
likewise. -/
def Obligations.EnablesAndPortLines : Prop :=
  (∀ (s : State) (now : Time) (i : LaneId), Ready s →
    ((s.lane i).holdTimer = some now → exec (.ampHoldExpiry now i) s = .next
      ((s.clockTo now).setLane i { s.lane i with holdTimer := none })) ∧
    ((s.lane i).holdTimer ≠ some now → exec (.ampHoldExpiry now i) s = .next (s.clockTo now))) ∧
  (∀ l : Lane, l.enable = true ↔ l.ampMode = .on ∨ l.ampMode = .auto
    ∧ (l.state = .prime ∨ l.state = .play ∨ l.state = .rampdown ∨ l.holdTimer ≠ none)) ∧
  ∀ (s : State) (i : LaneId),
    (s.pins.inReset = true → s.aenPin i = none ∧ s.sclk = false ∧ s.sfrm = false ∧ s.spLine i = false) ∧
    (s.pins.inReset = false →
      s.aenPin i = some (if s.pins.aenpol then !(s.lane i).enable else (s.lane i).enable) ∧
      (s.sclk = true ↔ 4 ≤ s.time.lmc.toNat % 8) ∧ (s.sfrm = true ↔ 256 ≤ s.time.lmc.toNat % 512) ∧
      let period := s.time.lmc.toNat % 512 / 8
      s.spLine i =
        if period < 24 then s.out.frame[i].left.getMsbD period
        else if period < 32 then false
        else if period < 56 then s.out.frame[i].right.getMsbD (period - 32)
        else false)

/-- R115, R166, R175, R176: a sense input whose run count has reached 48. It changes its accepted level and its run starts at
0; an activation raises its condition, and under MUTE_ALL sets its latch, which moves every lane when no latch was set
before, a route following the holds that remain, the order of several lanes being log entry 23's. Its row performs the act
(log entry 4). -/
def Obligations.SenseAccepted : Prop :=
  ∀ (s : State) (i : InputId), s.pins.inReset = false → 48 ≤ (s.input i).run →
    let x := s.input i
    let raised : State → State := State.raise (if i = 0 then .sense0 else .sense1)
    (x.accepted = true → exec (.senseAccept i) s = .next (s.setInput i { x with accepted := false, run := 0 })) ∧
    (x.accepted = false → (x.action = .none ∨ (s.input 0).latch = true ∨ (s.input 1).latch = true) →
      exec (.senseAccept i) s = .next (raised (s.setInput i
        { x with accepted := true, run := 0, latch := x.latch || x.action == .muteAll }))) ∧
    (x.accepted = false → x.action = .muteAll → (s.input 0).latch = false → (s.input 1).latch = false →
      ∃ t : State, exec (.senseAccept i) s = .next t ∧
        (∀ j, t.lane j = afterWaitCause s.time.lmc (s.lane j)) ∧
        PrimeLeft (fun _ => True) s t ∧
        { t with lanes := s.lanes, routes := s.routes } =
          raised (s.setInput i { x with accepted := true, run := 0, latch := true }))

/-- R33, R36, R38: a monitor window ends. With 4,000 to 4,192 edges REFIN is active: PENDING becomes REFIN with REFIN_ACTIVE;
with any other count, REFIN becomes PENDING with REFIN_LOST; every other case is no change. The next window counts from 0.
That the window ends with this command, which brings the edges not yet counted, is the model's choice (log entry 14). -/
def Obligations.MonitorWindowJudged : Prop :=
  ∀ (s : State) (edges : Nat), Ready s →
    let count := windowCount edges s
    let fresh : TimebaseState → State := fun st => { s with time := { s.time with state := st, monitorEdges := 0 } }
    exec (.monitorWindowEnd edges) s = .next
      (match s.time.state, decide (4000 ≤ count ∧ count ≤ 4192) with
        | .pending, true => (fresh .refin).raise .refinActive
        | .refin, false => (fresh .pending).raise .refinLost
        | st, _ => fresh st)

/-! ### The management engine -/

/-- R24, R25, R179, R181: an item that ends. DONE goes on to a next item; the last item, or any other status, ends the list,
later items NOT_RUN: an addressed frame is answered by one REPLY, its place in the queue is freed, a broadcast one by none.
-/
def Obligations.ItemEnds : Prop :=
  ∀ (s : State) (st : Status) (data : List Byte) (item : Item) (rest : List Item) (f : MgmtFrame) (queue : List MgmtFrame),
    s.mgmt.todo = item :: rest → s.mgmt.queue = f :: queue →
    let result : ItemResult := { code := item.code, status := st, data := if st = .done then data else [] }
    let results := s.mgmt.results ++ [result] ++ rest.map (fun x => { code := x.code, status := .notRun, data := [] })
    let idle : Mgmt := { queue := queue, phase := .idle, todo := [], results := [] }
    let reply : List Byte := [5, byteAt f.bytes 2, s.pins.linkAddress, BitVec.ofNat 8 results.length]
      ++ results.flatMap (fun x => [x.code, x.status.code] ++ beBytes 2 x.data.length ++ x.data)
    (st = .done → rest ≠ [] → s.finishItem st data =
      { s with mgmt := { s.mgmt with phase := .running, todo := rest, results := s.mgmt.results ++ [result] } }) ∧
    (st ≠ .done ∨ rest = [] → f.addressed = true → s.tx.rep = [] →
      s.finishItem st data = { s with tx := { s.tx with rep := [reply] }, mgmt := idle }) ∧
    (st ≠ .done ∨ rest = [] → f.addressed = false → s.finishItem st data = { s with mgmt := idle })

/-- R180 tests 1 to 3: an item whose code names no request ends UNKNOWN_REQUEST; one of a wrong operand length
MALFORMED_REQUEST; one whose largest result would carry an addressed frame's reply past 2,048 bytes REFUSED_SPACE; in each
case nothing else of the part changes. -/
def Obligations.ItemsJudged : Prop :=
  (∀ (s : State) (item : Item) (rest : List Item), Ready s → s.mgmt.phase = .running → s.mgmt.todo = item :: rest →
    (∀ q : Request, q.code ≠ item.code) → exec .unknownRequest s = .next (s.finishItem .unknownRequest [])) ∧
  (∀ (s : State) (q : Request) (item : Item) (rest : List Item) (f : MgmtFrame) (queue : List MgmtFrame), Ready s →
    s.mgmt.phase = .running → s.mgmt.todo = item :: rest → item.code = q.code → s.mgmt.queue = f :: queue →
    (item.operands.length ≠ q.operandLength →
      exec (requestCommand s.time.lmc q) s = .next (s.finishItem .malformedRequest [])) ∧
    (item.operands.length = q.operandLength → f.addressed = true →
      2048 < 4 + (s.mgmt.results.map (fun x => 4 + x.data.length)).sum + 4 + q.maxData + 4 * rest.length →
      exec (requestCommand s.time.lmc q) s = .next (s.finishItem .refusedSpace []))) ∧
  (∀ (s : State) (st : Status) (data : List Byte),
    { s.finishItem st data with mgmt := s.mgmt, tx := { (s.finishItem st data).tx with rep := s.tx.rep } } = s)

/-- R184: IDENTIFY reports 0x0E52, 0x0440, 1, the link address, the strap value and AENPOL, and changes nothing but the
engine's list and the reply. -/
def Obligations.Identify : Prop :=
  ∀ (s : State) (ops : List Byte) (rest : List Item), Executing .identify ops rest s →
    let t := s.finishItem .done
      [0x0E, 0x52, 0x04, 0x40, 1, s.pins.linkAddress, BitVec.ofNat 8 s.pins.straps.toNat, if s.pins.aenpol then 1 else 0]
    exec .identify s = .next t ∧ { t with mgmt := s.mgmt, tx := { t.tx with rep := s.tx.rep } } = s

/-- R183, R185: STATUS reports 207 bytes: the condition set and mask, the timebase state and selection, 30 bytes for each
group slot, 8 for each route, 3 for each lane, and the latches; absent fields read 0. That bits 2 to 7 of the latches' byte
read 0 is the model's choice (log entry 26). -/
def Obligations.StatusReported : Prop :=
  ∀ (s : State) (ops : List Byte) (rest : List Item), Executing .status ops rest s →
    ∃ d : List Byte, exec .status s = .next (s.finishItem .done d) ∧ d.length = 207 ∧
      d.take 10 = beBytes 4 s.cond.present.toNat ++ beBytes 4 s.cond.mask.toNat
        ++ ([match s.time.state with | .xo => 0 | .pending => 1 | .refin => 2, if s.time.selectRefin then 1 else 0]
          : List Byte) ∧
      (∀ i : SlotId, (d.drop (10 + 30 * i.val)).take 30 =
        let g := s.slot i
        ([g.tag, match g.role with | some .leader => 0 | some .follower => 1 | none => 255,
          match g.state with
            | .idle => 0 | .leading => 1 | .acquire => 2 | .track => 3 | .locked => 4 | .holdover => 5,
          if g.map.isSome then 1 else 0] : List Byte)
        ++ (match g.map with
          | some m => beBytes 6 m.al.toNat ++ beBytes 6 m.ag.toNat ++ beBytesInt 2 m.trim
          | none => List.replicate 14 0)
        ++ beBytesInt 4 g.integrator ++ beBytes 2 g.insideRun ++ beBytes 2 g.outsideRun ++ beBytes 2 g.lost
        ++ beBytes 2 g.answered) ∧
      (∀ r : RouteId, (d.drop (130 + 8 * r.val)).take 8 =
        let t := s.route r
        ([match t.state with | .free => 0 | .armed => 1 | .live => 2 | .draining => 3] : List Byte)
        ++ (match t.config with
          | some c => beBytes 2 c.stream.toNat
              ++ [BitVec.ofNat 8 c.slot.val, match c.mode with | .sink => 0 | .source => 1]
          | none => [0, 0, 0, 0])
        ++ (match t.release with
          | some q => [1] ++ beBytes 2 q.toNat
          | none => [0, 0, 0])) ∧
      (∀ i : LaneId, (d.drop (194 + 3 * i.val)).take 3 =
        let l := s.lane i
        [match l.state with | .stop => 0 | .wait => 1 | .prime => 2 | .play => 3 | .rampdown => 4,
          match l.route with | some r => BitVec.ofNat 8 r.val | none => 255, if l.staged.isSome then 1 else 0]) ∧
      d.drop 206 =
        [BitVec.ofNat 8 ((if (s.input 0).latch then 1 else 0) + (if (s.input 1).latch then 2 else 0))]

/-- R176, R186, R187, R192: CONDITIONS-CLEAR makes the conditions named, of bits 0 to 25, absent, and no other; naming SENSE0
or SENSE1 clears that input's latch. CONDITIONS-MASK replaces the mask and leaves the condition set; ATTN follows the two. -/
def Obligations.ConditionsClearedAndMasked : Prop :=
  (∀ (s : State) (ops : List Byte) (rest : List Item), Executing .conditionsClear ops rest s →
    let named : BitVec 32 := BitVec.ofNat 32 (beNat ops) &&& 0x03FFFFFF
    exec .conditionsClear s = .next (State.finishItem .done []
      { s with
        cond := { s.cond with present := s.cond.present &&& ~~~ named }
        sense := #v[if named.getLsbD 24 then { s.input 0 with latch := false } else s.input 0,
                    if named.getLsbD 25 then { s.input 1 with latch := false } else s.input 1] })) ∧
  (∀ (s : State) (ops : List Byte) (rest : List Item), Executing .conditionsMask ops rest s →
    let mask : BitVec 32 := BitVec.ofNat 32 (beNat ops) &&& 0x03FFFFFF
    let t := State.finishItem .done [] { s with cond := { s.cond with mask := mask } }
    exec .conditionsMask s = .next t ∧ (t.attn = true ↔ ∃ k, s.cond.present.getLsbD k = true ∧ mask.getLsbD k = false))

/-- R37, R188: TIMEBASE-SELECT takes 0 as XO and any other value as REFIN. XO moves every state to XO; REFIN moves XO to
PENDING and leaves PENDING and REFIN; the counter is untouched. -/
def Obligations.TimebaseSelected : Prop :=
  ∀ (s : State) (ops : List Byte) (rest : List Item), Executing .timebaseSelect ops rest s →
    let selected : TimebaseState :=
      match s.time.state, decide (byteAt ops 0 ≠ 0) with
      | .xo, false => .xo
      | .xo, true => .pending
      | .pending, false => .xo
      | .pending, true => .pending
      | .refin, false => .xo
      | .refin, true => .refin
    exec .timebaseSelect s = .next (State.finishItem .done []
      { s with time := { s.time with state := selected, selectRefin := decide (byteAt ops 0 ≠ 0) } })

/-- R191: SENSE-ACTION refuses an action other than 0 or 1 in either field, changing neither input; otherwise it writes both,
NONE clearing its input's latch, and the mute stands exactly while a latch is left. -/
def Obligations.SenseActionsWritten : Prop :=
  ∀ (s : State) (ops : List Byte) (rest : List Item), Executing .senseAction ops rest s →
    let written : Byte → SenseInput → SenseInput := fun b x =>
      if b = 0 then { x with action := .none, latch := false } else { x with action := .muteAll }
    let t : State := { s with sense := #v[written (byteAt ops 0) (s.input 0), written (byteAt ops 1) (s.input 1)] }
    (1 < (byteAt ops 0).toNat ∨ 1 < (byteAt ops 1).toNat →
      exec .senseAction s = .next (s.finishItem .refusedIndex [])) ∧
    ((byteAt ops 0).toNat ≤ 1 → (byteAt ops 1).toNat ≤ 1 → exec .senseAction s = .next (t.finishItem .done []) ∧
      (t.muted = true ↔
        byteAt ops 0 = 1 ∧ (s.input 0).latch = true ∨ byteAt ops 1 = 1 ∧ (s.input 1).latch = true))

/-- R9, R18, R32, R39, R51, R107, R127, R151, R193, R194: DEVICE-RESET anywhere but last in its list is refused. As the last
item of an addressed frame it waits in RESET_WAIT for the reply with its DONE; of a broadcast frame it takes effect at once,
a frame then departing being ended with ABT (word 0x1F0). That the command queue stays is the model's choice (log entry 20).
-/
def Obligations.DeviceResetExecuted : Prop :=
  ∀ (s : State) (ops : List Byte) (rest : List Item) (f : MgmtFrame) (queue : List MgmtFrame),
    Executing .deviceReset ops rest s → s.mgmt.queue = f :: queue →
    (rest ≠ [] → exec .deviceReset s = .next (s.finishItem .refusedState [])) ∧
    (rest = [] → f.addressed = true → s.tx.rep = [] → exec .deviceReset s = .next
      (let results := s.mgmt.results ++ [{ code := 0x7F, status := .done, data := [] }]
      { s with
        tx := { s.tx with rep := [buildReply (byteAt f.bytes 2) s.pins.linkAddress results] }
        mgmt := { s.mgmt with phase := .resetWait, todo := [], results := results } })) ∧
    (rest = [] → f.addressed = false → exec .deviceReset s = .next
      { State.reset with
        time := s.time, pins := s.pins, pending := s.pending
        tx := { State.reset.tx with words := if s.tx.departing = none then [] else [0x1F0] }
        store := { State.reset.store with mem := s.store.mem }
        out := { s.out with reg := State.reset.out.reg }
        sense := s.sense.map
          (fun x => { pin := x.pin, accepted := false, run := 0, action := .none, latch := false }) })

/-! ### Group slots -/

/-- R45: the operands of GROUP-SET byte by byte, with the range each is clamped to, and its checks in order. -/
def Obligations.GroupSetChecked : Prop :=
  (∀ ops : List Byte, configInRange (groupSetConfig ops) = true ∧ (ops.length = 20 →
    let b : Nat → Nat := fun k => (byteAt ops k).toNat
    groupSetConfig ops =
      { leader := BitVec.ofNat 8 (min 14 (b 3))
        mode := [TriggerMode.off, .once, .stream, .tick].getD (b 4) .off
        tickBit := max 16 (min 27 (b 5))
        timeout := max (2 ^ 14) (min (2 ^ 24) (b 6 * 2 ^ 24 + b 7 * 2 ^ 16 + b 8 * 2 ^ 8 + b 9))
        filterN := max 1 (min 8 (b 10))
        gate := b 11 * 256 + b 12
        response := min 4 (b 13)
        window := b 14 * 256 + b 15
        lockCount := max 1 (min 15 (b 16))
        unlockCount := max 1 (min 15 (b 17))
        holdoverEnter := max 1 (min 15 (b 18))
        holdoverLimit := max 16 (min 255 (b 19)) })) ∧
  ∀ (s : State) (now : Time) (ops : List Byte) (rest : List Item), Executing .groupSet ops rest s →
    let badIndex : Prop := 3 < (byteAt ops 0).toNat ∨ byteAt ops 1 = 0 ∨ 1 < (byteAt ops 2).toNat ∨ 3 < (byteAt ops 4).toNat
    (badIndex → exec (.groupSet now) s = .next ((s.clockTo now).finishItem .refusedIndex [])) ∧
    ∀ i : SlotId, ¬ badIndex → (byteAt ops 0).toNat = i.val →
      ((∃ j, j ≠ i ∧ (s.slot j).tag = byteAt ops 1) →
        exec (.groupSet now) s = .next ((s.clockTo now).finishItem .refusedInUse [])) ∧
      ((∀ j, j ≠ i → (s.slot j).tag ≠ byteAt ops 1) → (s.slot i).tag ≠ 0 → (s.slot i).tag ≠ byteAt ops 1 →
        exec (.groupSet now) s = .next ((s.clockTo now).finishItem .refusedState []))

/-- R44 to R46, R55: GROUP-SET on a slot not in use creates it: a leader LEADING with the identity map at the LMC value of
the execution, a follower in ACQUIRE without a map; every count 0. (A follower in STREAM mode also sounds at once, R53.) -/
def Obligations.GroupSetCreates : Prop :=
  ∀ (s : State) (now : Time) (ops : List Byte) (rest : List Item) (i : SlotId), Executing .groupSet ops rest s →
    (byteAt ops 0).toNat = i.val → byteAt ops 1 ≠ 0 → (byteAt ops 2).toNat ≤ 1 → (byteAt ops 4).toNat ≤ 3 →
    (∀ j, j ≠ i → (s.slot j).tag ≠ byteAt ops 1) → (s.slot i).tag = 0 → (s.slot i).role = none →
    let fresh : GroupSlot :=
      { (State.reset).slot i with tag := byteAt ops 1, config := some (groupSetConfig ops) }
    (byteAt ops 2 = 0 → exec (.groupSet now) s = .next
      (((s.clockTo now).setSlot i
        { fresh with
          role := some .leader, state := .leading, map := some { al := now, ag := now, trim := 0 } }).finishItem .done [])) ∧
    (byteAt ops 2 = 1 → byteAt ops 4 ≠ 2 → exec (.groupSet now) s = .next
      (((s.clockTo now).setSlot i { fresh with role := some .follower, state := .acquire }).finishItem .done [])) ∧
    (byteAt ops 2 = 1 → byteAt ops 4 = 2 → (∀ e ∈ s.tx.snd, e.slot ≠ i) → exec (.groupSet now) s = .next
      (({ (s.clockTo now).setSlot i
          { fresh with role := some .follower, state := .acquire, record := some (.queued 0), seqCounter := 1 } with
        tx := { s.tx with snd := s.tx.snd ++ [
          { slot := i, seq := 0
            bytes := [2, (groupSetConfig ops).leader, s.pins.linkAddress, byteAt ops 1, 0, 0, 0, 0, 0, 0, 0] }] }
        } : State).finishItem .done []))

/-- R43, R47 to R49, R53, R55, R59, R82, R105: GROUP-SET on a slot in use. Keeping the role it rewrites the configuration and
restarts the filter; a LEADER turned FOLLOWER keeps its map in TRACK, its SOURCE routes becoming SINK routes; a FOLLOWER
turned LEADER re-anchors at the LMC value with trim 0 and drops its record. A slot that so becomes or is made a follower in
STREAM mode without a record sounds at once; one that was in STREAM mode keeps its schedule; one with a record waits for its
end; a follower outside STREAM mode keeps no armed due event. -/
def Obligations.GroupSetRewrites : Prop :=
  ∀ (s : State) (now : Time) (ops : List Byte) (rest : List Item) (i : SlotId), Executing .groupSet ops rest s →
    (byteAt ops 0).toNat = i.val → byteAt ops 1 ≠ 0 → (byteAt ops 2).toNat ≤ 1 → (byteAt ops 4).toNat ≤ 3 →
    (∀ j, j ≠ i → (s.slot j).tag ≠ byteAt ops 1) → (s.slot i).tag = byteAt ops 1 →
    let g := s.slot i
    let u := s.clockTo now
    let streamed : Prop := ∃ k, g.config = some k ∧ k.mode = .stream
    let due : GroupSlot → GroupSlot := fun h =>
      { h with record := some (.queued h.seqCounter), seqCounter := h.seqCounter + 1 }
    let offered : GroupSlot → Transmitter := fun h =>
      if ∃ e ∈ s.tx.snd, e.slot = i then s.tx
      else { s.tx with snd := s.tx.snd ++ [soundingOf i s.pins.linkAddress (groupSetConfig ops) h] }
    let kept : GroupSlot :=
      { g with config := some (groupSetConfig ops), errSum := 0, pathSum := 0, accepted := 0, rejected := 0 }
    let changed : GroupSlot :=
      { kept with
        integrator := 0, history := [], lost := 0, insideRun := 0, outsideRun := 0, record := none, streamDue := none }
    let turned : Vector Route 8 := s.routes.map (fun t =>
      match t.config with
      | some c =>
        if c.slot = i ∧ c.mode = .source then
          { t with config := some { c with mode := .sink, lead := none }, nextSeq := none, lastStamp := none }
        else t
      | none => t)
    let follower : GroupSlot := { changed with role := some .follower, state := .track }
    (byteAt ops 2 = 0 → g.role = some .leader →
      exec (.groupSet now) s = .next ((u.setSlot i kept).finishItem .done [])) ∧
    (byteAt ops 2 = 1 → g.role = some .follower →
      (byteAt ops 4 ≠ 2 →
        exec (.groupSet now) s = .next ((u.setSlot i { kept with streamDue := none }).finishItem .done [])) ∧
      (byteAt ops 4 = 2 → streamed ∨ g.record ≠ none →
        exec (.groupSet now) s = .next ((u.setSlot i kept).finishItem .done [])) ∧
      (byteAt ops 4 = 2 → ¬ streamed → g.record = none → exec (.groupSet now) s = .next
        (({ u.setSlot i (due kept) with tx := offered kept } : State).finishItem .done []))) ∧
    (byteAt ops 2 = 1 → g.role = some .leader →
      (byteAt ops 4 ≠ 2 → exec (.groupSet now) s = .next
        (({ u.setSlot i follower with routes := turned } : State).finishItem .done [])) ∧
      (byteAt ops 4 = 2 → exec (.groupSet now) s = .next
        (({ u.setSlot i (due follower) with routes := turned, tx := offered follower } : State).finishItem .done []))) ∧
    (byteAt ops 2 = 0 → g.role = some .follower → exec (.groupSet now) s = .next
      (({ (s.clockTo now).setSlot i
          { changed with
            role := some .leader, state := .leading
            map := some { al := now, trim := 0, ag := match g.map with | some m => m.convert now | none => now } } with
        tx := { s.tx with snd := s.tx.snd.filter (fun e => e.slot != i) } } : State).finishItem .done []))

/-- R50, R51, R54 to R56, R58, R59, R69, R183: GROUP-CLEAR is refused for a slot number above 3 and for a slot with a route
that is not FREE; otherwise a slot in use takes its reset values, its QUEUED sounding being withdrawn, and a slot not in use
is unchanged. GROUP-SOUND is refused for a slot number above 3 and for a slot that is no follower in ONCE mode; otherwise the
slot has a due event at once and the request is DONE: with a QUEUED record it does nothing, otherwise a new record is QUEUED,
an OUTSTANDING one being counted lost, and its SOUNDING joins the class, which holds one for a slot. GROUP-MEASURE reports
the last result with the ready flag as it stood, and clears the flag. -/
def Obligations.GroupSlotRequests : Prop :=
  (∀ (s : State) (ops : List Byte) (rest : List Item), Executing .groupClear ops rest s →
    (3 < (byteAt ops 0).toNat → exec .groupClear s = .next (s.finishItem .refusedIndex [])) ∧
    ∀ i : SlotId, (byteAt ops 0).toNat = i.val →
      ((∃ r c, (s.route r).config = some c ∧ (s.route r).state ≠ .free ∧ c.slot = i) →
        exec .groupClear s = .next (s.finishItem .refusedInUse [])) ∧
      ((∀ r c, (s.route r).config = some c → (s.route r).state ≠ .free → c.slot ≠ i) →
        ((s.slot i).tag = 0 → exec .groupClear s = .next (s.finishItem .done [])) ∧
        ((s.slot i).tag ≠ 0 → exec .groupClear s = .next
          (({ s.setSlot i (State.reset.slot i) with
            tx := { s.tx with snd := s.tx.snd.filter (fun e => e.slot != i) } } : State).finishItem .done [])))) ∧
  (∀ (s : State) (ops : List Byte) (rest : List Item), Executing .groupSound ops rest s →
    (3 < (byteAt ops 0).toNat → exec .groupSound s = .next (s.finishItem .refusedIndex [])) ∧
    ∀ i : SlotId, (byteAt ops 0).toNat = i.val →
      ((s.slot i).role ≠ some .follower ∨ (∀ c, (s.slot i).config = some c → c.mode ≠ .once) →
        exec .groupSound s = .next (s.finishItem .refusedState [])) ∧
      (∀ c, (s.slot i).role = some .follower → (s.slot i).config = some c → c.mode = .once →
        (∀ seq, (s.slot i).record = some (.queued seq) → exec .groupSound s = .next (s.finishItem .done [])) ∧
        ((∀ seq, (s.slot i).record ≠ some (.queued seq)) → exec .groupSound s = .next
          (({ s.setSlot i (afterDue c (s.slot i)) with
            tx := { s.tx with
              snd := if ∃ e ∈ s.tx.snd, e.slot = i then s.tx.snd
                else s.tx.snd ++ [
                  { slot := i, seq := (s.slot i).seqCounter
                    bytes := [2, c.leader, s.pins.linkAddress, (s.slot i).tag, (s.slot i).seqCounter,
                      0, 0, 0, 0, 0, 0] }] } } : State).finishItem .done [])))) ∧
  (∀ (s : State) (ops : List Byte) (rest : List Item), Executing .groupMeasure ops rest s →
    (3 < (byteAt ops 0).toNat → exec .groupMeasure s = .next (s.finishItem .refusedIndex [])) ∧
    ∀ i : SlotId, (byteAt ops 0).toNat = i.val → exec .groupMeasure s = .next
      ((s.setSlot i { s.slot i with ready := false }).finishItem .done
        (match (s.slot i).lastResult with
          | none => [0, if (s.slot i).ready then 1 else 0] ++ List.replicate 14 0
          | some r => [1, if (s.slot i).ready then 1 else 0] ++ beBytesInt 4 r.e ++ beBytes 6 r.p ++ beBytes 2 r.n
            ++ beBytes 2 r.rejected)))

/-! ### Routes and the page map -/

/-- R90 to R92, R110, R111: the refusals of ROUTE-ARM in order, the space check last: no run of free pages of the length
exists. A request that passes takes the lowest run of free pages long enough, its operands clamped; the route is ARMED with
an empty directory and its counters 0, and its numbers are reported. -/
def Obligations.RouteArmDecided : Prop :=
  (∀ (s : State) (ops : List Byte) (rest : List Item), Executing .routeArm ops rest s →
    let refuse : Status → Prop := fun st => exec .routeArm s = .next (s.finishItem st [])
    (routeArmOperands ops = none → refuse .refusedIndex) ∧
    (routeArmOperands ops = none ↔ 7 < (byteAt ops 0).toNat ∨ 3 < (byteAt ops 3).toNat ∨ 1 < (byteAt ops 4).toNat
      ∨ 1 < (byteAt ops 7).toNat) ∧
    ∀ r c, routeArmOperands ops = some (r, c) →
      let elsewhere : Prop := ∃ q k, q ≠ r ∧ (s.route q).config = some k ∧ (s.route q).state ≠ .free ∧ k.stream = c.stream
      ((s.route r).state ≠ .free → refuse .refusedState) ∧
      ((s.route r).state = .free → (s.slot c.slot).tag = 0 → refuse .refusedState) ∧
      ((s.route r).state = .free → (s.slot c.slot).tag ≠ 0 → c.mode = .source → (s.slot c.slot).state ≠ .leading →
        refuse .refusedState) ∧
      ((s.route r).state = .free → (s.slot c.slot).tag ≠ 0 → c.mode = .sink ∨ (s.slot c.slot).state = .leading →
        elsewhere → refuse .refusedInUse) ∧
      ((s.route r).state = .free → (s.slot c.slot).tag ≠ 0 → c.mode = .sink ∨ (s.slot c.slot).state = .leading →
        ¬ elsewhere → (∀ p, p + c.depth * c.slotPages ≤ s.store.pages.length →
          ∃ k, k < c.depth * c.slotPages ∧ s.store.pages[p + k]? ≠ some none) → refuse .refusedSpace)) ∧
  (∀ (s : State) (ops : List Byte) (rest : List Item) (r : RouteId) (c : RouteConfig) (p : Nat),
    Executing .routeArm ops rest s → routeArmOperands ops = some (r, c) → (s.route r).state = .free →
    (s.slot c.slot).tag ≠ 0 → c.mode = .sink ∨ (s.slot c.slot).state = .leading →
    (∀ q k, q ≠ r → (s.route q).config = some k → (s.route q).state ≠ .free → k.stream ≠ c.stream) →
    (∀ k, k < c.depth * c.slotPages → s.store.pages[p + k]? = some none) →
    (∀ q, q < p → ∃ k, k < c.depth * c.slotPages ∧ s.store.pages[q + k]? ≠ some none) →
    let d := (byteAt ops 5).toNat
    r.val = (byteAt ops 0).toNat ∧ c.slot.val = (byteAt ops 3).toNat ∧ (c.mode = .source ↔ byteAt ops 4 = 1) ∧
    (c.concealMode = .repeat ↔ byteAt ops 7 = 1) ∧
    c.depth = (if d ≤ 8 then 8 else if d ≤ 16 then 16 else if d ≤ 32 then 32 else 64) ∧
    c.slotPages = max 1 (min 8 (byteAt ops 6).toNat) ∧
    c.concealLimit = min (max 1 (min 8 (byteAt ops 8).toNat)) (c.depth / 2) ∧
    c.lead = (if c.mode = .source then some (max 4096 (min 8388608 (beNat ((ops.drop 9).take 4)))) else none) ∧
    c.stream.toNat = beNat ((ops.drop 1).take 2) ∧
    exec .routeArm s = .next
      (({ s.setRoute r
          { state := .armed, config := some { c with firstPage := p }, release := none
            nextSeq := if c.mode = .source then some 0 else none, lastStamp := none
            counters := (State.reset.route r).counters, dir := List.replicate c.depth .invalid } with
        store := { s.store with
          pages := fillRun s.store.pages p (c.depth * c.slotPages) (some r) } } : State).finishItem .done
        (beBytes 2 p ++ beBytes 1 c.depth ++ beBytes 1 c.slotPages ++ beBytes 1 c.concealLimit
          ++ beBytes 4 (c.lead.getD 0))))

/-- R29, R84, R102 to R104, R112, R115, R135, R140, R164: ROUTE-DISARM of an ARMED or LIVE route: its lanes leave by their
states, no other lane or route is touched, and its placement is abandoned, at once or, where a write burst is under way, at
that burst's end (log entry 17). It is DRAINING, configuration and pages kept and the release point following the holds that
remain, while a lane ramps down or such a burst lasts; otherwise it is FREE at once, its pages given back. Of any other route
it changes nothing. Where several lanes were primed on it, the release point is as log entry 23 has it. An AUDIO frame at its
hand-off to the route, its lookup made, is marked, to be discarded at its DISPATCH (log entry 24). -/
def Obligations.RouteDisarmed : Prop :=
  ∀ (s : State) (now : Time) (ops : List Byte) (rest : List Item), Executing .routeDisarm ops rest s → LanesLegal s →
    (7 < (byteAt ops 0).toNat → exec (.routeDisarm now) s = .next ((s.clockTo now).finishItem .refusedIndex [])) ∧
    ∀ r : RouteId, (byteAt ops 0).toNat = r.val →
      ((s.route r).state = .free ∨ (s.route r).state = .draining →
        exec (.routeDisarm now) s = .next ((s.clockTo now).finishItem .done [])) ∧
      ((s.route r).state = .armed ∨ (s.route r).state = .live → ∃ t : State,
        exec (.routeDisarm now) s = .next (t.finishItem .done []) ∧
        (let playing : Prop := ∃ i, (s.lane i).route = some r ∧ ((s.lane i).state = .play ∨ (s.lane i).state = .rampdown)
         let writing : Prop := ∃ base bytes, s.store.burst = some (.write base bytes)
         let held : Prop := playing ∨ (writing ∧ ∃ p, s.store.placement = some p ∧ p.route = r)
         (held → t.store.pages = s.store.pages ∧ ∃ left : Route,
            left = { s.route r with release := left.release, dir := left.dir } ∧
            ((∀ i, (s.lane i).route = some r → (s.lane i).state ≠ .prime) → left = s.route r) ∧
            (∀ i, (s.lane i).route = some r → (s.lane i).state = .prime →
              (∀ j, j ≠ i → (s.lane j).route = some r → (s.lane j).state ≠ .prime) →
              ReleaseFollowed (t.holds r) (s.route r) left) ∧
            (∀ p, s.store.placement = some p → p.route = r → ¬ writing →
              t.route r = { left with state := .draining, dir := left.dir.set p.index .invalid }) ∧
            (writing ∨ (∀ p, s.store.placement = some p → p.route ≠ r) →
              t.route r = { left with state := .draining })) ∧
         (¬ held → ∀ c, (s.route r).config = some c →
            t.route r = { State.reset.route r with counters := (s.route r).counters }
              ∧ t.store.pages = fillRun s.store.pages c.firstPage (c.depth * c.slotPages) none) ∧
         (∀ p, s.store.placement = some p → p.route = r →
            (¬ writing → t.store.placement = none ∧ t.rx = { s.rx with ingress := s.rx.ingress.tail, hand := none }) ∧
            (writing → t.store.placement = some { p with abandoned := true } ∧ (s.rx.hand ≠ none → t.rx = s.rx)))) ∧
        ((∀ p, s.store.placement = some p → p.route ≠ r) →
          t.store.placement = s.store.placement ∧
          (∀ e queue c, s.rx.hand = none → s.rx.ingress = e :: queue → e.phase = .complete → Passes e s → HandedTo e r c s →
            t.rx = { s.rx with ingress := { e with disarmed := true } :: queue }) ∧
          (s.rx.hand ≠ none ∨ (∀ e queue, s.rx.ingress = e :: queue → e.phase ≠ .complete ∨ ¬ Passes e s
              ∨ frameKindByte e.bytes ≠ 1 ∨ ∀ c, (s.route r).config = some c → c.stream ≠ audioStream e.bytes) →
            t.rx = s.rx)) ∧
        (∀ i, t.lane i = if (s.lane i).route = some r then afterStopCause now (s.lane i) else s.lane i) ∧
        (∀ q, q ≠ r → t.route q = s.route q) ∧ (t.route r).counters = (s.route r).counters ∧
        t.store = { s.store with placement := t.store.placement, pages := t.store.pages } ∧
        { t with lanes := s.lanes, routes := s.routes, store := s.store, rx := s.rx } = s.clockTo now)

/-- R101, R126, R183: ROUTE-COUNTS reports the eight counters as they stand; a clear option other than 0 then sets them to 0.
PAGE-RUNS reports the clamped stretch of the page map as maximal runs in page order, which together give its owners page by
page. -/
def Obligations.CountsAndPagesRead : Prop :=
  (∀ (s : State) (ops : List Byte) (rest : List Item), Executing .routeCounts ops rest s →
    (7 < (byteAt ops 0).toNat → exec .routeCounts s = .next (s.finishItem .refusedIndex [])) ∧
    ∀ r : RouteId, (byteAt ops 0).toNat = r.val →
      let k := (s.route r).counters
      let report := beBytes 2 k.accepted ++ beBytes 2 k.duplicate ++ beBytes 2 k.late ++ beBytes 2 k.ahead
        ++ beBytes 2 k.oversize ++ beBytes 2 k.misdirected ++ beBytes 2 k.concealed ++ beBytes 2 k.restamped
      (byteAt ops 1 = 0 → exec .routeCounts s = .next (s.finishItem .done report)) ∧
      (byteAt ops 1 ≠ 0 → exec .routeCounts s = .next
        ((s.setRoute r { s.route r with counters :=
          { accepted := 0, duplicate := 0, late := 0, ahead := 0, oversize := 0, misdirected := 0, concealed := 0,
            restamped := 0 } }).finishItem .done report))) ∧
  (∀ (s : State) (ops : List Byte) (rest : List Item), Executing .pageRuns ops rest s → s.store.pages.length = 1024 →
    let first := min 1023 (beNat (ops.take 2))
    let count := min (max 1 (min 64 (byteAt ops 2).toNat)) (1024 - first)
    ∃ runs : List (Nat × Nat × Option RouteId),
      exec .pageRuns s = .next (s.finishItem .done (beBytes 1 runs.length ++ runs.flatMap (fun x =>
        beBytes 2 x.1 ++ beBytes 2 x.2.1 ++ [match x.2.2 with | some r => BitVec.ofNat 8 r.val | none => 255]))) ∧
      runs.flatMap (fun x => List.replicate x.2.1 x.2.2) = (s.store.pages.drop first).take count ∧
      (runs.map (·.2.1)).sum = count ∧ (∀ x ∈ runs, 0 < x.2.1) ∧ (runs.head?.map (·.1)) = some first ∧
      List.IsChain (fun x y => y.1 = x.1 + x.2.1 ∧ x.2.2 ≠ y.2.2) runs)

/-- R122, R125, R182, R183: SLOT-PEEK of a FREE route reports FREE and no entries; of another it waits for its grant, given
when the memory is free and neither a lane nor the placement waits: the entries of the clamped range are copied as they
stand, before a placement's completion that falls at the same moment where PLACEMENT_COMPLETE comes after the grant, which
leaves it due. The grant's command takes the copy (log entry 16). -/
def Obligations.SlotPeeked : Prop :=
  (∀ (s : State) (ops : List Byte) (rest : List Item), Executing .slotPeek ops rest s →
    (7 < (byteAt ops 0).toNat → exec .slotPeek s = .next (s.finishItem .refusedIndex [])) ∧
    ∀ r : RouteId, (byteAt ops 0).toNat = r.val →
      ((s.route r).state = .free → exec .slotPeek s = .next (s.finishItem .done (List.replicate 9 0))) ∧
      (∀ c, (s.route r).state ≠ .free → (s.route r).config = some c → 0 < c.depth →
        let first := min (c.depth - 1) (byteAt ops 1).toNat
        let count := min (max 1 (min 16 (byteAt ops 2).toNat)) (c.depth - first)
        exec .slotPeek s = .next { s with mgmt := { s.mgmt with phase := .storeWait r first count } })) ∧
  (∀ (s : State) (r : RouteId) (first count : Nat) (c : RouteConfig), s.pins.inReset = false → s.quietUnplaced = true →
    s.mgmt.phase = .storeWait r first count → (s.route r).config = some c →
    let writing : Prop := ∃ p, s.store.placement = some p ∧ p.abandoned = false ∧ p.written < (p.frame.n + 31) / 32
    (s.store.burst.isSome = true ∨ (∃ i : LaneId, s.store.reads[i] ≠ []) ∨ writing → exec .slotPeekGrant s = .next s) ∧
    (s.store.burst = none → (∀ i : LaneId, s.store.reads[i] = []) → ¬ writing →
      exec .slotPeekGrant s = .next (State.finishItem .done
        ([routeStateCode (s.route r).state] ++ beBytes 1 c.depth ++ beBytes 1 c.slotPages ++ beBytes 2 c.firstPage
          ++ (match (s.route r).release with | some q => [1] ++ beBytes 2 q.toNat | none => [0, 0, 0]) ++ beBytes 1 count
          ++ (List.range count).flatMap (fun k =>
            beBytes 1 (first + k) ++
              (match (s.route r).dir.getD (first + k) .invalid with
                | .invalid => List.replicate 14 0
                | .inPlacement q => [1] ++ beBytes 2 q.toNat ++ List.replicate 11 0
                | .valid f => [2] ++ beBytes 2 f.seq.toNat ++ beBytes 6 f.pt.toNat ++ beBytes 2 f.n
                    ++ [if f.restart then 1 else 0] ++ beBytes 2 (c.firstPage + (first + k) * c.slotPages))))
        { s with store := { s.store with burst := some .peek } })))

/-! ### Lane requests -/

/-- R115, R129, R135, R161, R172, R173, R189: the operands of LANE-BIND byte by byte. A LANE-BIND whose indexes pass and
whose lane holds no staged change: refused where the route is not ARMED or LIVE; otherwise at once in STOP, WAIT and PRIME,
staged in PLAY and RAMPDOWN. Only the lane changes, but that a route it leaves from PRIME follows the holds that remain. That
its settings are written before it leaves PRIME is the model's choice (log entry 27). -/
def Obligations.LaneBound : Prop :=
  (∀ (ops : List Byte) (i : LaneId) (r : RouteId) (v : Settings), ops.length = 9 → laneBindOperands ops = some (i, r, v) →
    let b : Nat → Nat := fun k => (byteAt ops k).toNat
    let carried : Nat → Bool := fun k => (byteAt ops 2).getLsbD k
    i.val = b 0 ∧ r.val = b 1 ∧ v =
      { route := some r
        plan := if carried 0 then [Plan.stereo, .left, .right, .mix][b 3]? else none
        gain := if carried 1 then some (b 4 * 256 + b 5) else none
        delay := if carried 2 then some (b 6 * 256 + b 7) else none
        amp := if carried 3 then [AmpMode.off, .on, .auto][b 8]? else none }) ∧
  ∀ (s : State) (now : Time) (ops : List Byte) (rest : List Item), Executing .laneBind ops rest s →
    (laneBindOperands ops = none → exec (.laneBind now) s = .next ((s.clockTo now).finishItem .refusedIndex [])) ∧
    (laneBindOperands ops = none ↔ 3 < (byteAt ops 0).toNat ∨ 7 < (byteAt ops 1).toNat
      ∨ ((byteAt ops 2).getLsbD 0 = true ∧ 3 < (byteAt ops 3).toNat)
      ∨ ((byteAt ops 2).getLsbD 3 = true ∧ 2 < (byteAt ops 8).toNat)) ∧
    ∀ i r v, laneBindOperands ops = some (i, r, v) → (s.lane i).staged = none →
      let u := s.clockTo now
      ((s.route r).state ≠ .armed → (s.route r).state ≠ .live →
        exec (.laneBind now) s = .next (u.finishItem .refusedState [])) ∧
      ((s.route r).state = .armed ∨ (s.route r).state = .live →
        ∃ t : State, exec (.laneBind now) s = .next (t.finishItem .done []) ∧ BindingMade now i r v u t)

/-- R115, R129, R135, R161, R172, R173, R182, R189: LANE-GAIN on a lane that holds no staged change acts at once in STOP,
WAIT and PRIME and is staged in PLAY and RAMPDOWN. LANE-BIND and LANE-GAIN for a lane that holds a staged change wait,
executing nothing, while the lane holds it; once it is absent the request's remaining checks and effect follow, in PLAY and
RAMPDOWN a staged change anew. The index checks come before the wait (log entry 15); a LANE-BIND's settings are written
before the lane leaves PRIME (log entry 27). -/
def Obligations.LaneGainAndWait : Prop :=
  (∀ (s : State) (ops : List Byte) (rest : List Item), Executing .laneGain ops rest s →
    (3 < (byteAt ops 0).toNat → exec .laneGain s = .next (s.finishItem .refusedIndex [])) ∧
    ∀ i : LaneId, (byteAt ops 0).toNat = i.val → (s.lane i).staged = none →
      let gain := beNat (ops.drop 1)
      ((s.lane i).state = .stop ∨ (s.lane i).state = .wait ∨ (s.lane i).state = .prime → exec .laneGain s = .next
        ((s.setLane i { s.lane i with gain := gain }).finishItem .done [])) ∧
      ((s.lane i).state = .play ∨ (s.lane i).state = .rampdown → exec .laneGain s = .next
        ((s.setLane i { s.lane i with
          staged := some { route := none, plan := none, gain := some gain, delay := none, amp := none } }).finishItem
          .done []))) ∧
  ((∀ (s : State) (now : Time) (ops : List Byte) (rest : List Item) (i : LaneId) (r : RouteId) (v : Settings),
    Executing .laneBind ops rest s → laneBindOperands ops = some (i, r, v) → (s.lane i).staged ≠ none →
    exec (.laneBind now) s = .next { s.clockTo now with mgmt := { s.mgmt with phase := .laneWait i } }) ∧
  (∀ (s : State) (ops : List Byte) (rest : List Item) (i : LaneId), Executing .laneGain ops rest s →
    (byteAt ops 0).toNat = i.val → (s.lane i).staged ≠ none →
    exec .laneGain s = .next { s with mgmt := { s.mgmt with phase := .laneWait i } }) ∧
  (∀ (s : State) (now : Time) (i : LaneId) (item : Item) (rest : List Item), Ready s → s.mgmt.phase = .laneWait i →
    s.mgmt.todo = item :: rest →
    let u : State := { s.clockTo now with mgmt := { s.mgmt with phase := .running } }
    let l := s.lane i
    (l.staged ≠ none → exec (.laneWaitEnd now) s = .next (s.clockTo now)) ∧
    (l.staged = none → item.code = 0x32 → item.operands.length = 3 → (byteAt item.operands 0).toNat = i.val →
      l.state = .stop ∨ l.state = .wait ∨ l.state = .prime → exec (.laneWaitEnd now) s = .next
        ((u.setLane i { l with gain := beNat (item.operands.drop 1) }).finishItem .done [])) ∧
    (l.staged = none → item.code = 0x32 → item.operands.length = 3 → (byteAt item.operands 0).toNat = i.val →
      l.state = .play ∨ l.state = .rampdown → exec (.laneWaitEnd now) s = .next
        ((u.setLane i { l with
          staged := some
            { route := none, plan := none, gain := some (beNat (item.operands.drop 1)), delay := none,
              amp := none } }).finishItem .done [])) ∧
    (∀ r v, l.staged = none → item.code = 0x30 → laneBindOperands item.operands = some (i, r, v) →
      ((s.route r).state ≠ .armed → (s.route r).state ≠ .live →
        exec (.laneWaitEnd now) s = .next (u.finishItem .refusedState [])) ∧
      ((s.route r).state = .armed ∨ (s.route r).state = .live →
        ∃ t : State, exec (.laneWaitEnd now) s = .next (t.finishItem .done []) ∧ BindingMade now i r v u t))))

/-- R115, R135, R140, R164, R190: LANE-UNBIND refuses a lane index above 3; otherwise it acts at once, dropping a staged
change: the lane leaves for STOP by its state, the route it leaves from PRIME follows the holds that remain, and the request
is DONE. -/
def Obligations.LaneUnbound : Prop :=
  ∀ (s : State) (now : Time) (ops : List Byte) (rest : List Item), Executing .laneUnbind ops rest s →
    (3 < (byteAt ops 0).toNat → exec (.laneUnbind now) s = .next ((s.clockTo now).finishItem .refusedIndex [])) ∧
    ∀ i : LaneId, (byteAt ops 0).toNat = i.val → ∃ t : State, exec (.laneUnbind now) s = .next (t.finishItem .done []) ∧
      t.lane i = { afterStopCause now (s.lane i) with staged := none } ∧ (∀ j, j ≠ i → t.lane j = s.lane j) ∧
      PrimeLeft (fun k => k = i) s t ∧ { t with lanes := s.lanes, routes := s.routes } = s.clockTo now

/-! ### Laws that a step keeps -/

/-- Spec/01 sections 1.4 and 1.5, R31, R40, R45, R65, R88, R89, R108, R110, R114, R117, R119, R120, R128, R129, R165: the
state after reset meets every law of Safety.lean that the statements below say a step keeps. -/
def Obligations.ResetMeetsLaws : Prop :=
  MemoryCanonical State.reset ∧ SlotsLegal State.reset ∧ ConfigsInRange State.reset ∧ TagsDistinct State.reset ∧
    SourcesLed State.reset ∧ LanesLegal State.reset ∧ WithinCapacity State.reset ∧ ReceiverLegal State.reset ∧
    RoutesConfigured State.reset ∧ PagesLegal State.reset ∧ WindowsLegal State.reset ∧ PlacementLegal State.reset ∧
    PlacementBelow State.reset

/-- R88, R108, R110: the store memory keeps its one canonical form, inside its 1,024 pages. The page map keeps 1,024 pages,
each free or in the run of the one route that owns it, and a route is FREE exactly while it holds no configuration. -/
def Obligations.StoreStaysLegal : Prop :=
  ∀ s t : State, step s = .next t →
    (MemoryCanonical s → MemoryCanonical t) ∧
    (PagesLegal s → RoutesConfigured s → PagesLegal t ∧ RoutesConfigured t)

/-- R40, R45, R48, R50, R89, R105: every slot's role goes on fixing its states, and its state whether it has a map and the
range of its trim; every configuration keeps to its ranges; no two slots in use hold one tag; a route in SOURCE mode goes on
standing on a LEADING slot. -/
def Obligations.SlotsStayLegal : Prop :=
  ∀ s t : State, step s = .next t →
    (SlotsLegal s → SlotsLegal t) ∧ (ConfigsInRange s → ConfigsInRange t) ∧ (TagsDistinct s → TagsDistinct t) ∧
    (SlotsLegal s → RoutesConfigured s → SourcesLed s → SourcesLed t)

/-- R128, R129, R165: every lane goes on holding exactly the fields its state has, a lane in STOP bound to no route and every
other to one that is not FREE. -/
def Obligations.LanesStayLegal : Prop := ∀ s t : State, LanesLegal s → step s = .next t → LanesLegal t

/-- R3, R6 to R8, R11, R27, R31, R65, R119: no queue outgrows its capacity. At most one ingress entry is RECEIVING, the
newest, exactly while the receiver is INSIDE; an entry in hand is the oldest and COMPLETE; the route unit holds it exactly
while a placement is in flight. -/
def Obligations.QueuesStayLegal : Prop :=
  ∀ s t : State, step s = .next t →
    (WithinCapacity s → WithinCapacity t) ∧ (ReceiverLegal s → ReceiverLegal t)

/-- R114, R117, R119, R120: after every step each VALID entry still lies 0 to D - 1 after its route's release point, at its
index modulo D, and a frame in flight stands at its index. It also lies less than D after the release point, as a placement
decision leaves it, where the step carries that release point no further than the signed distance of R120 can show: the time
a burst takes is the sender's (log entry 22), so that a release point could otherwise pass a frame in flight by more than
32,768 sequences. -/
def Obligations.WindowsStayLegal : Prop :=
  ∀ s t : State, WindowsLegal s → PlacementLegal s → PlacementBelow s → RoutesConfigured s → step s = .next t →
    WindowsLegal t ∧ PlacementLegal t ∧ RoutesConfigured t ∧ (ReleaseNear s t → PlacementBelow t)

/-- R192: no command but POWER_ON_RESET, CONDITIONS_CLEAR, DEVICE_RESET and the end of the departure a DEVICE-RESET waits for
makes a condition absent, and no command but these and CONDITIONS_MASK changes the mask; nor does an idle step, which is one
count of the LMC by the model's choice (log entry 1). -/
def Obligations.ConditionsPersist : Prop :=
  (∀ (c : Instr) (s t : State), c ≠ .powerOnReset → c ≠ .conditionsClear → c ≠ .deviceReset →
    (c = .departureEnd → s.mgmt.phase ≠ .resetWait) → exec c s = .next t →
    s.cond.present &&& ~~~ t.cond.present = 0 ∧ (c ≠ .conditionsMask → t.cond.mask = s.cond.mask)) ∧
  (∀ s t : State, s.pending = [] → step s = .next t →
    s.cond.present &&& ~~~ t.cond.present = 0 ∧ t.cond.mask = s.cond.mask)
end

