-- ==== Sys2Proof/Laws/State.lean ====
section
/-! SUPPORT. What each update of the state leaves as it was, and what an accessor reads after it: every lemma by `rfl`, or by the
law of reading a vector after a write. No later proof needs to unfold a record update. -/

namespace Sys2Proof.Machine

variable (s : State)

/-! ### `setSlot` -/

@[simp] theorem State.setSlot_time (i : SlotId) (g : GroupSlot) : (s.setSlot i g).time = s.time := rfl
@[simp] theorem State.setSlot_pins (i : SlotId) (g : GroupSlot) : (s.setSlot i g).pins = s.pins := rfl
@[simp] theorem State.setSlot_rx (i : SlotId) (g : GroupSlot) : (s.setSlot i g).rx = s.rx := rfl
@[simp] theorem State.setSlot_tx (i : SlotId) (g : GroupSlot) : (s.setSlot i g).tx = s.tx := rfl
@[simp] theorem State.setSlot_routes (i : SlotId) (g : GroupSlot) : (s.setSlot i g).routes = s.routes := rfl
@[simp] theorem State.setSlot_store (i : SlotId) (g : GroupSlot) : (s.setSlot i g).store = s.store := rfl
@[simp] theorem State.setSlot_lanes (i : SlotId) (g : GroupSlot) : (s.setSlot i g).lanes = s.lanes := rfl
@[simp] theorem State.setSlot_out (i : SlotId) (g : GroupSlot) : (s.setSlot i g).out = s.out := rfl
@[simp] theorem State.setSlot_sense (i : SlotId) (g : GroupSlot) : (s.setSlot i g).sense = s.sense := rfl
@[simp] theorem State.setSlot_mgmt (i : SlotId) (g : GroupSlot) : (s.setSlot i g).mgmt = s.mgmt := rfl
@[simp] theorem State.setSlot_cond (i : SlotId) (g : GroupSlot) : (s.setSlot i g).cond = s.cond := rfl
@[simp] theorem State.setSlot_pending (i : SlotId) (g : GroupSlot) : (s.setSlot i g).pending = s.pending := rfl
@[simp] theorem State.setSlot_route (i : SlotId) (g : GroupSlot) (q : RouteId) : (s.setSlot i g).route q = s.route q := rfl
@[simp] theorem State.setSlot_lane (i : SlotId) (g : GroupSlot) (j : LaneId) : (s.setSlot i g).lane j = s.lane j := rfl
@[simp] theorem State.setSlot_input (i : SlotId) (g : GroupSlot) (j : InputId) : (s.setSlot i g).input j = s.input j := rfl

/-! ### `setRoute` -/

@[simp] theorem State.setRoute_time (r : RouteId) (t : Route) : (s.setRoute r t).time = s.time := rfl
@[simp] theorem State.setRoute_pins (r : RouteId) (t : Route) : (s.setRoute r t).pins = s.pins := rfl
@[simp] theorem State.setRoute_rx (r : RouteId) (t : Route) : (s.setRoute r t).rx = s.rx := rfl
@[simp] theorem State.setRoute_tx (r : RouteId) (t : Route) : (s.setRoute r t).tx = s.tx := rfl
@[simp] theorem State.setRoute_slots (r : RouteId) (t : Route) : (s.setRoute r t).slots = s.slots := rfl
@[simp] theorem State.setRoute_store (r : RouteId) (t : Route) : (s.setRoute r t).store = s.store := rfl
@[simp] theorem State.setRoute_lanes (r : RouteId) (t : Route) : (s.setRoute r t).lanes = s.lanes := rfl
@[simp] theorem State.setRoute_out (r : RouteId) (t : Route) : (s.setRoute r t).out = s.out := rfl
@[simp] theorem State.setRoute_sense (r : RouteId) (t : Route) : (s.setRoute r t).sense = s.sense := rfl
@[simp] theorem State.setRoute_mgmt (r : RouteId) (t : Route) : (s.setRoute r t).mgmt = s.mgmt := rfl
@[simp] theorem State.setRoute_cond (r : RouteId) (t : Route) : (s.setRoute r t).cond = s.cond := rfl
@[simp] theorem State.setRoute_pending (r : RouteId) (t : Route) : (s.setRoute r t).pending = s.pending := rfl
@[simp] theorem State.setRoute_slot (r : RouteId) (t : Route) (j : SlotId) : (s.setRoute r t).slot j = s.slot j := rfl
@[simp] theorem State.setRoute_lane (r : RouteId) (t : Route) (j : LaneId) : (s.setRoute r t).lane j = s.lane j := rfl
@[simp] theorem State.setRoute_input (r : RouteId) (t : Route) (j : InputId) : (s.setRoute r t).input j = s.input j := rfl

/-! ### `setLane` -/

@[simp] theorem State.setLane_time (i : LaneId) (l : Lane) : (s.setLane i l).time = s.time := rfl
@[simp] theorem State.setLane_pins (i : LaneId) (l : Lane) : (s.setLane i l).pins = s.pins := rfl
@[simp] theorem State.setLane_rx (i : LaneId) (l : Lane) : (s.setLane i l).rx = s.rx := rfl
@[simp] theorem State.setLane_tx (i : LaneId) (l : Lane) : (s.setLane i l).tx = s.tx := rfl
@[simp] theorem State.setLane_slots (i : LaneId) (l : Lane) : (s.setLane i l).slots = s.slots := rfl
@[simp] theorem State.setLane_routes (i : LaneId) (l : Lane) : (s.setLane i l).routes = s.routes := rfl
@[simp] theorem State.setLane_store (i : LaneId) (l : Lane) : (s.setLane i l).store = s.store := rfl
@[simp] theorem State.setLane_out (i : LaneId) (l : Lane) : (s.setLane i l).out = s.out := rfl
@[simp] theorem State.setLane_sense (i : LaneId) (l : Lane) : (s.setLane i l).sense = s.sense := rfl
@[simp] theorem State.setLane_mgmt (i : LaneId) (l : Lane) : (s.setLane i l).mgmt = s.mgmt := rfl
@[simp] theorem State.setLane_cond (i : LaneId) (l : Lane) : (s.setLane i l).cond = s.cond := rfl
@[simp] theorem State.setLane_pending (i : LaneId) (l : Lane) : (s.setLane i l).pending = s.pending := rfl
@[simp] theorem State.setLane_slot (i : LaneId) (l : Lane) (j : SlotId) : (s.setLane i l).slot j = s.slot j := rfl
@[simp] theorem State.setLane_route (i : LaneId) (l : Lane) (q : RouteId) : (s.setLane i l).route q = s.route q := rfl
@[simp] theorem State.setLane_input (i : LaneId) (l : Lane) (j : InputId) : (s.setLane i l).input j = s.input j := rfl

/-! ### `setInput` -/

@[simp] theorem State.setInput_time (i : InputId) (x : SenseInput) : (s.setInput i x).time = s.time := rfl
@[simp] theorem State.setInput_pins (i : InputId) (x : SenseInput) : (s.setInput i x).pins = s.pins := rfl
@[simp] theorem State.setInput_rx (i : InputId) (x : SenseInput) : (s.setInput i x).rx = s.rx := rfl
@[simp] theorem State.setInput_tx (i : InputId) (x : SenseInput) : (s.setInput i x).tx = s.tx := rfl
@[simp] theorem State.setInput_slots (i : InputId) (x : SenseInput) : (s.setInput i x).slots = s.slots := rfl
@[simp] theorem State.setInput_routes (i : InputId) (x : SenseInput) : (s.setInput i x).routes = s.routes := rfl
@[simp] theorem State.setInput_store (i : InputId) (x : SenseInput) : (s.setInput i x).store = s.store := rfl
@[simp] theorem State.setInput_lanes (i : InputId) (x : SenseInput) : (s.setInput i x).lanes = s.lanes := rfl
@[simp] theorem State.setInput_out (i : InputId) (x : SenseInput) : (s.setInput i x).out = s.out := rfl
@[simp] theorem State.setInput_mgmt (i : InputId) (x : SenseInput) : (s.setInput i x).mgmt = s.mgmt := rfl
@[simp] theorem State.setInput_cond (i : InputId) (x : SenseInput) : (s.setInput i x).cond = s.cond := rfl
@[simp] theorem State.setInput_pending (i : InputId) (x : SenseInput) : (s.setInput i x).pending = s.pending := rfl
@[simp] theorem State.setInput_slot (i : InputId) (x : SenseInput) (j : SlotId) : (s.setInput i x).slot j = s.slot j := rfl
@[simp] theorem State.setInput_route (i : InputId) (x : SenseInput) (q : RouteId) : (s.setInput i x).route q = s.route q := rfl
@[simp] theorem State.setInput_lane (i : InputId) (x : SenseInput) (j : LaneId) : (s.setInput i x).lane j = s.lane j := rfl

/-! ### `modSlot` -/

@[simp] theorem State.modSlot_time (i : SlotId) (f : GroupSlot → GroupSlot) : (s.modSlot i f).time = s.time := rfl
@[simp] theorem State.modSlot_pins (i : SlotId) (f : GroupSlot → GroupSlot) : (s.modSlot i f).pins = s.pins := rfl
@[simp] theorem State.modSlot_rx (i : SlotId) (f : GroupSlot → GroupSlot) : (s.modSlot i f).rx = s.rx := rfl
@[simp] theorem State.modSlot_tx (i : SlotId) (f : GroupSlot → GroupSlot) : (s.modSlot i f).tx = s.tx := rfl
@[simp] theorem State.modSlot_routes (i : SlotId) (f : GroupSlot → GroupSlot) : (s.modSlot i f).routes = s.routes := rfl
@[simp] theorem State.modSlot_store (i : SlotId) (f : GroupSlot → GroupSlot) : (s.modSlot i f).store = s.store := rfl
@[simp] theorem State.modSlot_lanes (i : SlotId) (f : GroupSlot → GroupSlot) : (s.modSlot i f).lanes = s.lanes := rfl
@[simp] theorem State.modSlot_out (i : SlotId) (f : GroupSlot → GroupSlot) : (s.modSlot i f).out = s.out := rfl
@[simp] theorem State.modSlot_sense (i : SlotId) (f : GroupSlot → GroupSlot) : (s.modSlot i f).sense = s.sense := rfl
@[simp] theorem State.modSlot_mgmt (i : SlotId) (f : GroupSlot → GroupSlot) : (s.modSlot i f).mgmt = s.mgmt := rfl
@[simp] theorem State.modSlot_cond (i : SlotId) (f : GroupSlot → GroupSlot) : (s.modSlot i f).cond = s.cond := rfl
@[simp] theorem State.modSlot_pending (i : SlotId) (f : GroupSlot → GroupSlot) : (s.modSlot i f).pending = s.pending := rfl
@[simp] theorem State.modSlot_route (i : SlotId) (f : GroupSlot → GroupSlot) (q : RouteId) : (s.modSlot i f).route q = s.route q := rfl
@[simp] theorem State.modSlot_lane (i : SlotId) (f : GroupSlot → GroupSlot) (j : LaneId) : (s.modSlot i f).lane j = s.lane j := rfl
@[simp] theorem State.modSlot_input (i : SlotId) (f : GroupSlot → GroupSlot) (j : InputId) : (s.modSlot i f).input j = s.input j := rfl

/-! ### `modRoute` -/

@[simp] theorem State.modRoute_time (r : RouteId) (f : Route → Route) : (s.modRoute r f).time = s.time := rfl
@[simp] theorem State.modRoute_pins (r : RouteId) (f : Route → Route) : (s.modRoute r f).pins = s.pins := rfl
@[simp] theorem State.modRoute_rx (r : RouteId) (f : Route → Route) : (s.modRoute r f).rx = s.rx := rfl
@[simp] theorem State.modRoute_tx (r : RouteId) (f : Route → Route) : (s.modRoute r f).tx = s.tx := rfl
@[simp] theorem State.modRoute_slots (r : RouteId) (f : Route → Route) : (s.modRoute r f).slots = s.slots := rfl
@[simp] theorem State.modRoute_store (r : RouteId) (f : Route → Route) : (s.modRoute r f).store = s.store := rfl
@[simp] theorem State.modRoute_lanes (r : RouteId) (f : Route → Route) : (s.modRoute r f).lanes = s.lanes := rfl
@[simp] theorem State.modRoute_out (r : RouteId) (f : Route → Route) : (s.modRoute r f).out = s.out := rfl
@[simp] theorem State.modRoute_sense (r : RouteId) (f : Route → Route) : (s.modRoute r f).sense = s.sense := rfl
@[simp] theorem State.modRoute_mgmt (r : RouteId) (f : Route → Route) : (s.modRoute r f).mgmt = s.mgmt := rfl
@[simp] theorem State.modRoute_cond (r : RouteId) (f : Route → Route) : (s.modRoute r f).cond = s.cond := rfl
@[simp] theorem State.modRoute_pending (r : RouteId) (f : Route → Route) : (s.modRoute r f).pending = s.pending := rfl
@[simp] theorem State.modRoute_slot (r : RouteId) (f : Route → Route) (j : SlotId) : (s.modRoute r f).slot j = s.slot j := rfl
@[simp] theorem State.modRoute_lane (r : RouteId) (f : Route → Route) (j : LaneId) : (s.modRoute r f).lane j = s.lane j := rfl
@[simp] theorem State.modRoute_input (r : RouteId) (f : Route → Route) (j : InputId) : (s.modRoute r f).input j = s.input j := rfl

/-! ### `modLane` -/

@[simp] theorem State.modLane_time (i : LaneId) (f : Lane → Lane) : (s.modLane i f).time = s.time := rfl
@[simp] theorem State.modLane_pins (i : LaneId) (f : Lane → Lane) : (s.modLane i f).pins = s.pins := rfl
@[simp] theorem State.modLane_rx (i : LaneId) (f : Lane → Lane) : (s.modLane i f).rx = s.rx := rfl
@[simp] theorem State.modLane_tx (i : LaneId) (f : Lane → Lane) : (s.modLane i f).tx = s.tx := rfl
@[simp] theorem State.modLane_slots (i : LaneId) (f : Lane → Lane) : (s.modLane i f).slots = s.slots := rfl
@[simp] theorem State.modLane_routes (i : LaneId) (f : Lane → Lane) : (s.modLane i f).routes = s.routes := rfl
@[simp] theorem State.modLane_store (i : LaneId) (f : Lane → Lane) : (s.modLane i f).store = s.store := rfl
@[simp] theorem State.modLane_out (i : LaneId) (f : Lane → Lane) : (s.modLane i f).out = s.out := rfl
@[simp] theorem State.modLane_sense (i : LaneId) (f : Lane → Lane) : (s.modLane i f).sense = s.sense := rfl
@[simp] theorem State.modLane_mgmt (i : LaneId) (f : Lane → Lane) : (s.modLane i f).mgmt = s.mgmt := rfl
@[simp] theorem State.modLane_cond (i : LaneId) (f : Lane → Lane) : (s.modLane i f).cond = s.cond := rfl
@[simp] theorem State.modLane_pending (i : LaneId) (f : Lane → Lane) : (s.modLane i f).pending = s.pending := rfl
@[simp] theorem State.modLane_slot (i : LaneId) (f : Lane → Lane) (j : SlotId) : (s.modLane i f).slot j = s.slot j := rfl
@[simp] theorem State.modLane_route (i : LaneId) (f : Lane → Lane) (q : RouteId) : (s.modLane i f).route q = s.route q := rfl
@[simp] theorem State.modLane_input (i : LaneId) (f : Lane → Lane) (j : InputId) : (s.modLane i f).input j = s.input j := rfl

/-! ### `bump` -/

@[simp] theorem State.bump_time (r : RouteId) (f : RouteCounters → RouteCounters) : (s.bump r f).time = s.time := rfl
@[simp] theorem State.bump_pins (r : RouteId) (f : RouteCounters → RouteCounters) : (s.bump r f).pins = s.pins := rfl
@[simp] theorem State.bump_rx (r : RouteId) (f : RouteCounters → RouteCounters) : (s.bump r f).rx = s.rx := rfl
@[simp] theorem State.bump_tx (r : RouteId) (f : RouteCounters → RouteCounters) : (s.bump r f).tx = s.tx := rfl
@[simp] theorem State.bump_slots (r : RouteId) (f : RouteCounters → RouteCounters) : (s.bump r f).slots = s.slots := rfl
@[simp] theorem State.bump_store (r : RouteId) (f : RouteCounters → RouteCounters) : (s.bump r f).store = s.store := rfl
@[simp] theorem State.bump_lanes (r : RouteId) (f : RouteCounters → RouteCounters) : (s.bump r f).lanes = s.lanes := rfl
@[simp] theorem State.bump_out (r : RouteId) (f : RouteCounters → RouteCounters) : (s.bump r f).out = s.out := rfl
@[simp] theorem State.bump_sense (r : RouteId) (f : RouteCounters → RouteCounters) : (s.bump r f).sense = s.sense := rfl
@[simp] theorem State.bump_mgmt (r : RouteId) (f : RouteCounters → RouteCounters) : (s.bump r f).mgmt = s.mgmt := rfl
@[simp] theorem State.bump_cond (r : RouteId) (f : RouteCounters → RouteCounters) : (s.bump r f).cond = s.cond := rfl
@[simp] theorem State.bump_pending (r : RouteId) (f : RouteCounters → RouteCounters) : (s.bump r f).pending = s.pending := rfl
@[simp] theorem State.bump_slot (r : RouteId) (f : RouteCounters → RouteCounters) (j : SlotId) : (s.bump r f).slot j = s.slot j := rfl
@[simp] theorem State.bump_lane (r : RouteId) (f : RouteCounters → RouteCounters) (j : LaneId) : (s.bump r f).lane j = s.lane j := rfl
@[simp] theorem State.bump_input (r : RouteId) (f : RouteCounters → RouteCounters) (j : InputId) : (s.bump r f).input j = s.input j := rfl

/-! ### `raise` -/

@[simp] theorem State.raise_time (c : Condition) : (s.raise c).time = s.time := rfl
@[simp] theorem State.raise_pins (c : Condition) : (s.raise c).pins = s.pins := rfl
@[simp] theorem State.raise_rx (c : Condition) : (s.raise c).rx = s.rx := rfl
@[simp] theorem State.raise_tx (c : Condition) : (s.raise c).tx = s.tx := rfl
@[simp] theorem State.raise_slots (c : Condition) : (s.raise c).slots = s.slots := rfl
@[simp] theorem State.raise_routes (c : Condition) : (s.raise c).routes = s.routes := rfl
@[simp] theorem State.raise_store (c : Condition) : (s.raise c).store = s.store := rfl
@[simp] theorem State.raise_lanes (c : Condition) : (s.raise c).lanes = s.lanes := rfl
@[simp] theorem State.raise_out (c : Condition) : (s.raise c).out = s.out := rfl
@[simp] theorem State.raise_sense (c : Condition) : (s.raise c).sense = s.sense := rfl
@[simp] theorem State.raise_mgmt (c : Condition) : (s.raise c).mgmt = s.mgmt := rfl
@[simp] theorem State.raise_pending (c : Condition) : (s.raise c).pending = s.pending := rfl
@[simp] theorem State.raise_slot (c : Condition) (j : SlotId) : (s.raise c).slot j = s.slot j := rfl
@[simp] theorem State.raise_route (c : Condition) (q : RouteId) : (s.raise c).route q = s.route q := rfl
@[simp] theorem State.raise_lane (c : Condition) (j : LaneId) : (s.raise c).lane j = s.lane j := rfl
@[simp] theorem State.raise_input (c : Condition) (j : InputId) : (s.raise c).input j = s.input j := rfl

/-! ### `clearConditions` -/

@[simp] theorem State.clearConditions_time (n : BitVec 32) : (s.clearConditions n).time = s.time := rfl
@[simp] theorem State.clearConditions_pins (n : BitVec 32) : (s.clearConditions n).pins = s.pins := rfl
@[simp] theorem State.clearConditions_rx (n : BitVec 32) : (s.clearConditions n).rx = s.rx := rfl
@[simp] theorem State.clearConditions_tx (n : BitVec 32) : (s.clearConditions n).tx = s.tx := rfl
@[simp] theorem State.clearConditions_slots (n : BitVec 32) : (s.clearConditions n).slots = s.slots := rfl
@[simp] theorem State.clearConditions_routes (n : BitVec 32) : (s.clearConditions n).routes = s.routes := rfl
@[simp] theorem State.clearConditions_store (n : BitVec 32) : (s.clearConditions n).store = s.store := rfl
@[simp] theorem State.clearConditions_lanes (n : BitVec 32) : (s.clearConditions n).lanes = s.lanes := rfl
@[simp] theorem State.clearConditions_out (n : BitVec 32) : (s.clearConditions n).out = s.out := rfl
@[simp] theorem State.clearConditions_sense (n : BitVec 32) : (s.clearConditions n).sense = s.sense := rfl
@[simp] theorem State.clearConditions_mgmt (n : BitVec 32) : (s.clearConditions n).mgmt = s.mgmt := rfl
@[simp] theorem State.clearConditions_pending (n : BitVec 32) : (s.clearConditions n).pending = s.pending := rfl
@[simp] theorem State.clearConditions_slot (n : BitVec 32) (j : SlotId) : (s.clearConditions n).slot j = s.slot j := rfl
@[simp] theorem State.clearConditions_route (n : BitVec 32) (q : RouteId) : (s.clearConditions n).route q = s.route q := rfl
@[simp] theorem State.clearConditions_lane (n : BitVec 32) (j : LaneId) : (s.clearConditions n).lane j = s.lane j := rfl
@[simp] theorem State.clearConditions_input (n : BitVec 32) (j : InputId) : (s.clearConditions n).input j = s.input j := rfl

/-! ### `setMask` -/

@[simp] theorem State.setMask_time (n : BitVec 32) : (s.setMask n).time = s.time := rfl
@[simp] theorem State.setMask_pins (n : BitVec 32) : (s.setMask n).pins = s.pins := rfl
@[simp] theorem State.setMask_rx (n : BitVec 32) : (s.setMask n).rx = s.rx := rfl
@[simp] theorem State.setMask_tx (n : BitVec 32) : (s.setMask n).tx = s.tx := rfl
@[simp] theorem State.setMask_slots (n : BitVec 32) : (s.setMask n).slots = s.slots := rfl
@[simp] theorem State.setMask_routes (n : BitVec 32) : (s.setMask n).routes = s.routes := rfl
@[simp] theorem State.setMask_store (n : BitVec 32) : (s.setMask n).store = s.store := rfl
@[simp] theorem State.setMask_lanes (n : BitVec 32) : (s.setMask n).lanes = s.lanes := rfl
@[simp] theorem State.setMask_out (n : BitVec 32) : (s.setMask n).out = s.out := rfl
@[simp] theorem State.setMask_sense (n : BitVec 32) : (s.setMask n).sense = s.sense := rfl
@[simp] theorem State.setMask_mgmt (n : BitVec 32) : (s.setMask n).mgmt = s.mgmt := rfl
@[simp] theorem State.setMask_pending (n : BitVec 32) : (s.setMask n).pending = s.pending := rfl
@[simp] theorem State.setMask_slot (n : BitVec 32) (j : SlotId) : (s.setMask n).slot j = s.slot j := rfl
@[simp] theorem State.setMask_route (n : BitVec 32) (q : RouteId) : (s.setMask n).route q = s.route q := rfl
@[simp] theorem State.setMask_lane (n : BitVec 32) (j : LaneId) : (s.setMask n).lane j = s.lane j := rfl
@[simp] theorem State.setMask_input (n : BitVec 32) (j : InputId) : (s.setMask n).input j = s.input j := rfl

/-! ### `releaseHand` -/

@[simp] theorem State.releaseHand_time : (s.releaseHand).time = s.time := rfl
@[simp] theorem State.releaseHand_pins : (s.releaseHand).pins = s.pins := rfl
@[simp] theorem State.releaseHand_tx : (s.releaseHand).tx = s.tx := rfl
@[simp] theorem State.releaseHand_slots : (s.releaseHand).slots = s.slots := rfl
@[simp] theorem State.releaseHand_routes : (s.releaseHand).routes = s.routes := rfl
@[simp] theorem State.releaseHand_store : (s.releaseHand).store = s.store := rfl
@[simp] theorem State.releaseHand_lanes : (s.releaseHand).lanes = s.lanes := rfl
@[simp] theorem State.releaseHand_out : (s.releaseHand).out = s.out := rfl
@[simp] theorem State.releaseHand_sense : (s.releaseHand).sense = s.sense := rfl
@[simp] theorem State.releaseHand_mgmt : (s.releaseHand).mgmt = s.mgmt := rfl
@[simp] theorem State.releaseHand_cond : (s.releaseHand).cond = s.cond := rfl
@[simp] theorem State.releaseHand_pending : (s.releaseHand).pending = s.pending := rfl
@[simp] theorem State.releaseHand_slot (j : SlotId) : (s.releaseHand).slot j = s.slot j := rfl
@[simp] theorem State.releaseHand_route (q : RouteId) : (s.releaseHand).route q = s.route q := rfl
@[simp] theorem State.releaseHand_lane (j : LaneId) : (s.releaseHand).lane j = s.lane j := rfl
@[simp] theorem State.releaseHand_input (j : InputId) : (s.releaseHand).input j = s.input j := rfl

/-! ### `ownPages` -/

@[simp] theorem State.ownPages_time (p len : Nat) (o : Option RouteId) : (s.ownPages p len o).time = s.time := rfl
@[simp] theorem State.ownPages_pins (p len : Nat) (o : Option RouteId) : (s.ownPages p len o).pins = s.pins := rfl
@[simp] theorem State.ownPages_rx (p len : Nat) (o : Option RouteId) : (s.ownPages p len o).rx = s.rx := rfl
@[simp] theorem State.ownPages_tx (p len : Nat) (o : Option RouteId) : (s.ownPages p len o).tx = s.tx := rfl
@[simp] theorem State.ownPages_slots (p len : Nat) (o : Option RouteId) : (s.ownPages p len o).slots = s.slots := rfl
@[simp] theorem State.ownPages_routes (p len : Nat) (o : Option RouteId) : (s.ownPages p len o).routes = s.routes := rfl
@[simp] theorem State.ownPages_lanes (p len : Nat) (o : Option RouteId) : (s.ownPages p len o).lanes = s.lanes := rfl
@[simp] theorem State.ownPages_out (p len : Nat) (o : Option RouteId) : (s.ownPages p len o).out = s.out := rfl
@[simp] theorem State.ownPages_sense (p len : Nat) (o : Option RouteId) : (s.ownPages p len o).sense = s.sense := rfl
@[simp] theorem State.ownPages_mgmt (p len : Nat) (o : Option RouteId) : (s.ownPages p len o).mgmt = s.mgmt := rfl
@[simp] theorem State.ownPages_cond (p len : Nat) (o : Option RouteId) : (s.ownPages p len o).cond = s.cond := rfl
@[simp] theorem State.ownPages_pending (p len : Nat) (o : Option RouteId) : (s.ownPages p len o).pending = s.pending := rfl
@[simp] theorem State.ownPages_slot (p len : Nat) (o : Option RouteId) (j : SlotId) : (s.ownPages p len o).slot j = s.slot j := rfl
@[simp] theorem State.ownPages_route (p len : Nat) (o : Option RouteId) (q : RouteId) : (s.ownPages p len o).route q = s.route q := rfl
@[simp] theorem State.ownPages_lane (p len : Nat) (o : Option RouteId) (j : LaneId) : (s.ownPages p len o).lane j = s.lane j := rfl
@[simp] theorem State.ownPages_input (p len : Nat) (o : Option RouteId) (j : InputId) : (s.ownPages p len o).input j = s.input j := rfl

/-! ### `clearLatch` -/

@[simp] theorem State.clearLatch_time (i : InputId) : (s.clearLatch i).time = s.time := rfl
@[simp] theorem State.clearLatch_pins (i : InputId) : (s.clearLatch i).pins = s.pins := rfl
@[simp] theorem State.clearLatch_rx (i : InputId) : (s.clearLatch i).rx = s.rx := rfl
@[simp] theorem State.clearLatch_tx (i : InputId) : (s.clearLatch i).tx = s.tx := rfl
@[simp] theorem State.clearLatch_slots (i : InputId) : (s.clearLatch i).slots = s.slots := rfl
@[simp] theorem State.clearLatch_routes (i : InputId) : (s.clearLatch i).routes = s.routes := rfl
@[simp] theorem State.clearLatch_store (i : InputId) : (s.clearLatch i).store = s.store := rfl
@[simp] theorem State.clearLatch_lanes (i : InputId) : (s.clearLatch i).lanes = s.lanes := rfl
@[simp] theorem State.clearLatch_out (i : InputId) : (s.clearLatch i).out = s.out := rfl
@[simp] theorem State.clearLatch_mgmt (i : InputId) : (s.clearLatch i).mgmt = s.mgmt := rfl
@[simp] theorem State.clearLatch_cond (i : InputId) : (s.clearLatch i).cond = s.cond := rfl
@[simp] theorem State.clearLatch_pending (i : InputId) : (s.clearLatch i).pending = s.pending := rfl
@[simp] theorem State.clearLatch_slot (i : InputId) (j : SlotId) : (s.clearLatch i).slot j = s.slot j := rfl
@[simp] theorem State.clearLatch_route (i : InputId) (q : RouteId) : (s.clearLatch i).route q = s.route q := rfl
@[simp] theorem State.clearLatch_lane (i : InputId) (j : LaneId) : (s.clearLatch i).lane j = s.lane j := rfl

/-! ### `latchPort` -/

@[simp] theorem State.latchPort_time (i : LaneId) (p : Pair) : (s.latchPort i p).time = s.time := rfl
@[simp] theorem State.latchPort_pins (i : LaneId) (p : Pair) : (s.latchPort i p).pins = s.pins := rfl
@[simp] theorem State.latchPort_rx (i : LaneId) (p : Pair) : (s.latchPort i p).rx = s.rx := rfl
@[simp] theorem State.latchPort_tx (i : LaneId) (p : Pair) : (s.latchPort i p).tx = s.tx := rfl
@[simp] theorem State.latchPort_slots (i : LaneId) (p : Pair) : (s.latchPort i p).slots = s.slots := rfl
@[simp] theorem State.latchPort_routes (i : LaneId) (p : Pair) : (s.latchPort i p).routes = s.routes := rfl
@[simp] theorem State.latchPort_store (i : LaneId) (p : Pair) : (s.latchPort i p).store = s.store := rfl
@[simp] theorem State.latchPort_lanes (i : LaneId) (p : Pair) : (s.latchPort i p).lanes = s.lanes := rfl
@[simp] theorem State.latchPort_sense (i : LaneId) (p : Pair) : (s.latchPort i p).sense = s.sense := rfl
@[simp] theorem State.latchPort_mgmt (i : LaneId) (p : Pair) : (s.latchPort i p).mgmt = s.mgmt := rfl
@[simp] theorem State.latchPort_cond (i : LaneId) (p : Pair) : (s.latchPort i p).cond = s.cond := rfl
@[simp] theorem State.latchPort_pending (i : LaneId) (p : Pair) : (s.latchPort i p).pending = s.pending := rfl
@[simp] theorem State.latchPort_slot (i : LaneId) (p : Pair) (j : SlotId) : (s.latchPort i p).slot j = s.slot j := rfl
@[simp] theorem State.latchPort_route (i : LaneId) (p : Pair) (q : RouteId) : (s.latchPort i p).route q = s.route q := rfl
@[simp] theorem State.latchPort_lane (i : LaneId) (p : Pair) (j : LaneId) : (s.latchPort i p).lane j = s.lane j := rfl
@[simp] theorem State.latchPort_input (i : LaneId) (p : Pair) (j : InputId) : (s.latchPort i p).input j = s.input j := rfl

/-! ### Reading what was written -/

@[simp] theorem State.setSlot_slot_self (i : SlotId) (g : GroupSlot) : (s.setSlot i g).slot i = g := by
  simp [State.setSlot, State.slot]

theorem State.setSlot_slot_ne (i j : SlotId) (g : GroupSlot) (h : j ≠ i) : (s.setSlot i g).slot j = s.slot j := by
  simp [State.setSlot, State.slot, Fin.val_ne_of_ne (Ne.symm h)]

theorem State.setSlot_slot (i j : SlotId) (g : GroupSlot) : (s.setSlot i g).slot j = if j = i then g else s.slot j := by
  by_cases h : j = i
  · subst h; simp
  · simp [h, State.setSlot_slot_ne]

@[simp] theorem State.setRoute_route_self (i : RouteId) (g : Route) : (s.setRoute i g).route i = g := by
  simp [State.setRoute, State.route]

theorem State.setRoute_route_ne (i j : RouteId) (g : Route) (h : j ≠ i) : (s.setRoute i g).route j = s.route j := by
  simp [State.setRoute, State.route, Fin.val_ne_of_ne (Ne.symm h)]

theorem State.setRoute_route (i j : RouteId) (g : Route) : (s.setRoute i g).route j = if j = i then g else s.route j := by
  by_cases h : j = i
  · subst h; simp
  · simp [h, State.setRoute_route_ne]

@[simp] theorem State.setLane_lane_self (i : LaneId) (g : Lane) : (s.setLane i g).lane i = g := by
  simp [State.setLane, State.lane]

theorem State.setLane_lane_ne (i j : LaneId) (g : Lane) (h : j ≠ i) : (s.setLane i g).lane j = s.lane j := by
  simp [State.setLane, State.lane, Fin.val_ne_of_ne (Ne.symm h)]

theorem State.setLane_lane (i j : LaneId) (g : Lane) : (s.setLane i g).lane j = if j = i then g else s.lane j := by
  by_cases h : j = i
  · subst h; simp
  · simp [h, State.setLane_lane_ne]

@[simp] theorem State.setInput_input_self (i : InputId) (g : SenseInput) : (s.setInput i g).input i = g := by
  simp [State.setInput, State.input]

theorem State.setInput_input_ne (i j : InputId) (g : SenseInput) (h : j ≠ i) : (s.setInput i g).input j = s.input j := by
  simp [State.setInput, State.input, Fin.val_ne_of_ne (Ne.symm h)]

theorem State.setInput_input (i j : InputId) (g : SenseInput) : (s.setInput i g).input j = if j = i then g else s.input j := by
  by_cases h : j = i
  · subst h; simp
  · simp [h, State.setInput_input_ne]

@[simp] theorem State.modSlot_slot_self (i : SlotId) (f : GroupSlot → GroupSlot) : (s.modSlot i f).slot i = f (s.slot i) := by
  simp [State.modSlot]

theorem State.modSlot_slot_ne (i j : SlotId) (f : GroupSlot → GroupSlot) (h : j ≠ i) : (s.modSlot i f).slot j = s.slot j := by
  simp [State.modSlot, State.setSlot_slot_ne, h]

theorem State.modSlot_slot (i j : SlotId) (f : GroupSlot → GroupSlot) :
    (s.modSlot i f).slot j = if j = i then f (s.slot i) else s.slot j := by
  simp [State.modSlot, State.setSlot_slot]

@[simp] theorem State.modRoute_route_self (i : RouteId) (f : Route → Route) : (s.modRoute i f).route i = f (s.route i) := by
  simp [State.modRoute]

theorem State.modRoute_route_ne (i j : RouteId) (f : Route → Route) (h : j ≠ i) : (s.modRoute i f).route j = s.route j := by
  simp [State.modRoute, State.setRoute_route_ne, h]

theorem State.modRoute_route (i j : RouteId) (f : Route → Route) :
    (s.modRoute i f).route j = if j = i then f (s.route i) else s.route j := by
  simp [State.modRoute, State.setRoute_route]

@[simp] theorem State.modLane_lane_self (i : LaneId) (f : Lane → Lane) : (s.modLane i f).lane i = f (s.lane i) := by
  simp [State.modLane]

theorem State.modLane_lane_ne (i j : LaneId) (f : Lane → Lane) (h : j ≠ i) : (s.modLane i f).lane j = s.lane j := by
  simp [State.modLane, State.setLane_lane_ne, h]

theorem State.modLane_lane (i j : LaneId) (f : Lane → Lane) :
    (s.modLane i f).lane j = if j = i then f (s.lane i) else s.lane j := by
  simp [State.modLane, State.setLane_lane]

@[simp] theorem State.bump_route_state (r q : RouteId) (f : RouteCounters → RouteCounters) :
    ((s.bump r f).route q).state = (s.route q).state := by
  unfold State.bump; rw [State.modRoute_route]; split <;> simp_all

@[simp] theorem State.bump_route_config (r q : RouteId) (f : RouteCounters → RouteCounters) :
    ((s.bump r f).route q).config = (s.route q).config := by
  unfold State.bump; rw [State.modRoute_route]; split <;> simp_all

/-! ### `clockTo` -/

@[simp] theorem State.clockTo_pins (t : Time) : (s.clockTo t).pins = s.pins := by unfold State.clockTo; split <;> rfl
@[simp] theorem State.clockTo_rx (t : Time) : (s.clockTo t).rx = s.rx := by unfold State.clockTo; split <;> rfl
@[simp] theorem State.clockTo_tx (t : Time) : (s.clockTo t).tx = s.tx := by unfold State.clockTo; split <;> rfl
@[simp] theorem State.clockTo_slots (t : Time) : (s.clockTo t).slots = s.slots := by unfold State.clockTo; split <;> rfl
@[simp] theorem State.clockTo_routes (t : Time) : (s.clockTo t).routes = s.routes := by unfold State.clockTo; split <;> rfl
@[simp] theorem State.clockTo_store (t : Time) : (s.clockTo t).store = s.store := by unfold State.clockTo; split <;> rfl
@[simp] theorem State.clockTo_lanes (t : Time) : (s.clockTo t).lanes = s.lanes := by unfold State.clockTo; split <;> rfl
@[simp] theorem State.clockTo_out (t : Time) : (s.clockTo t).out = s.out := by unfold State.clockTo; split <;> rfl
@[simp] theorem State.clockTo_sense (t : Time) : (s.clockTo t).sense = s.sense := by unfold State.clockTo; split <;> rfl
@[simp] theorem State.clockTo_mgmt (t : Time) : (s.clockTo t).mgmt = s.mgmt := by unfold State.clockTo; split <;> rfl
@[simp] theorem State.clockTo_cond (t : Time) : (s.clockTo t).cond = s.cond := by unfold State.clockTo; split <;> rfl
@[simp] theorem State.clockTo_pending (t : Time) : (s.clockTo t).pending = s.pending := by unfold State.clockTo; split <;> rfl
@[simp] theorem State.clockTo_slot (t : Time) (j : SlotId) : (s.clockTo t).slot j = s.slot j := by unfold State.clockTo; split <;> rfl
@[simp] theorem State.clockTo_route (t : Time) (q : RouteId) : (s.clockTo t).route q = s.route q := by unfold State.clockTo; split <;> rfl
@[simp] theorem State.clockTo_lane (t : Time) (j : LaneId) : (s.clockTo t).lane j = s.lane j := by unfold State.clockTo; split <;> rfl
@[simp] theorem State.clockTo_input (t : Time) (j : InputId) : (s.clockTo t).input j = s.input j := by unfold State.clockTo; split <;> rfl

@[simp] theorem State.clockTo_lmc (t : Time) : (s.clockTo t).time.lmc = t := by
  unfold State.clockTo; split
  · rename_i h; exact h.symm
  · rfl

end Sys2Proof.Machine
end

