-- ==== Sys2Proof/Laws/Settle.lean ====
section
/-! SUPPORT. Where no follow-up act is due, a command acts on the state as it stands. -/

namespace Sys2Proof.Machine

theorem State.completePlacement_of_quiet (s : State) (h : s.store.quiet = true) : s.completePlacement = s := by
  unfold State.completePlacement
  split
  · rfl
  · rename_i p hp
    have h' : p.abandoned = true ∨ p.written < framePages p.frame.n := by
      simpa [Store.quiet, hp] using h
    simp [h']

theorem State.filterBlockAct_of_quiet (s : State) (i : SlotId) (h : (s.slot i).quiet = true) :
    s.filterBlockAct i = s := by
  have h' : (s.slot i).blockDone = none := by
    have := h; simp [GroupSlot.quiet] at this; exact this.1
  unfold State.filterBlockAct
  simp [h']

theorem State.lossActs_of_quiet (s : State) (i : SlotId) (h : (s.slot i).quiet = true) :
    (s.holdoverAct i).leaderLostAct i = s := by
  have h' : (s.slot i).lossDue = none := by
    have := h; simp [GroupSlot.quiet] at this; exact this.2
  simp [State.holdoverAct, State.leaderLostAct, h']

theorem State.rampInEndAct_of_quiet (s : State) (i : LaneId) (h : (s.lane i).quiet = true) : s.rampInEndAct i = s := by
  unfold State.rampInEndAct
  split
  · rename_i m hm
    have : m ≤ Config.rampLength := by simpa [Lane.quiet, hm] using h
    simp [Nat.not_lt.mpr this]
  · rfl

theorem State.rampEndAct_of_quiet (s : State) (i : LaneId) (h : (s.lane i).quiet = true) : s.rampEndAct i = s := by
  unfold State.rampEndAct
  split
  · rename_i c m d hs hr
    have : c ≤ Config.rampLength := by simpa [Lane.quiet, hr, hs] using h
    simp [Nat.not_lt.mpr this]
  · rfl

theorem State.senseAcceptAct_of_quiet (s : State) (i : InputId) (h : (s.input i).quiet = true) :
    s.senseAcceptAct i = s := by
  have h' : (s.input i).run < Config.debounce := by simpa [SenseInput.quiet] using h
  simp [State.senseAcceptAct, h']

theorem State.endRamps_of_quiet (s : State) (h : ∀ i : LaneId, (s.lane i).quiet = true) : s.endRamps = s := by
  simp [State.endRamps, allLanes, State.rampEndAct_of_quiet, h]

/-- Nothing due but a placement's completion: settling the rest changes nothing. -/
theorem State.settleUnplaced_of_quiet (s : State) (h : s.quietUnplaced = true) : s.settleUnplaced = s := by
  simp only [State.quietUnplaced, Bool.and_eq_true, List.all_eq_true, allSlots, allLanes] at h
  obtain ⟨⟨⟨hs, hl⟩, h0⟩, h1⟩ := h
  have hs' : ∀ i : SlotId, (s.slot i).quiet = true := fun i => hs i (by fin_cases i <;> simp)
  have hl' : ∀ i : LaneId, (s.lane i).quiet = true := fun i => hl i (by fin_cases i <;> simp)
  simp [State.settleUnplaced, allSlots, allLanes, State.filterBlockAct_of_quiet, hs', State.lossActs_of_quiet,
    State.rampInEndAct_of_quiet, hl', State.endRamps_of_quiet, State.senseAcceptAct_of_quiet, h0, h1]

/-- Nothing due: settling changes nothing. -/
theorem State.settle_of_quiet (s : State) (h : s.quiet = true) : s.settle = s := by
  simp only [State.quiet, Bool.and_eq_true] at h
  rw [State.settle, State.completePlacement_of_quiet s h.1, State.settleUnplaced_of_quiet s h.2]

/-- A command acts on a part that is out of reset and owes nothing. -/
theorem State.act_of_quiet (s : State) (f : State → State) (hr : s.pins.inReset = false) (h : s.quiet = true) :
    s.act f = f s := by
  simp [State.act, hr, State.settle_of_quiet s h]

theorem State.actAt_of_quiet (s : State) (f : State → State) (now : Time) (hr : s.pins.inReset = false)
    (h : s.quiet = true) : s.actAt now f = f (s.clockTo now) := by
  simp [State.actAt, hr, State.settle_of_quiet s h]

/-- R125: the grant acts on a part that owes at most a placement's completion. -/
theorem State.actUnplaced_of_quiet (s : State) (f : State → State) (hr : s.pins.inReset = false)
    (h : s.quietUnplaced = true) : s.actUnplaced f = f s := by
  simp [State.actUnplaced, hr, State.settleUnplaced_of_quiet s h]

theorem State.followUp_of_release (s : State) (f : State → State) (hr : s.pins.inReset = false) : s.followUp f = f s := by
  simp [State.followUp, hr]

end Sys2Proof.Machine
end

