-- ==== Sys2Proof/Laws/Engine.lean ====
section
/-! SUPPORT. What the engine's shared operations can do, once: judging an item (`runItem`), ending one (`finishItem`), ending a
list (`endExecution`); and how a command runs on a part that is ready. -/

namespace Sys2Proof.Machine

open Sys2Proof.Safety

variable {s : State}

/-! ### Commands on a ready part -/

theorem act_of_ready (h : Ready s) (f : State → State) : s.act f = f s := State.act_of_quiet s f h.released h.quiet

theorem actAt_of_ready (h : Ready s) (f : State → State) (now : Time) : s.actAt now f = f (s.clockTo now) :=
  State.actAt_of_quiet s f now h.released h.quiet

/-- In reset a command does nothing; otherwise it acts on the settled part. -/
theorem act_cases (f : State → State) :
    (s.pins.inReset = true ∧ s.act f = s) ∨ (s.pins.inReset = false ∧ s.act f = f s.settle) := by
  unfold State.act; cases h : s.pins.inReset <;> simp

theorem actAt_cases (f : State → State) (now : Time) :
    (s.pins.inReset = true ∧ s.actAt now f = s) ∨
      (s.pins.inReset = false ∧ s.actAt now f = f (s.settle.clockTo now)) := by
  unfold State.actAt; cases h : s.pins.inReset <;> simp

theorem followUp_cases (f : State → State) :
    (s.pins.inReset = true ∧ s.followUp f = s) ∨ (s.pins.inReset = false ∧ s.followUp f = f s) := by
  unfold State.followUp; cases h : s.pins.inReset <;> simp

/-! ### Ending an item -/

/-- The reply is the only thing `offerReply` can change, and only where the class is empty. -/
theorem offerReply_cases (f : MgmtFrame) (results : List ItemResult) :
    (s.tx.rep ≠ [] ∧ s.offerReply f results = s) ∨
      (s.tx.rep = [] ∧ s.offerReply f results =
        { s with tx := { s.tx with rep := [buildReply (frameSource f.bytes) s.pins.linkAddress results] } }) := by
  unfold State.offerReply; cases h : s.tx.rep <;> simp

/-- Ending a list changes the engine and, at most, the REPLY class. -/
theorem endExecution_frame (results : List ItemResult) :
    ∃ rep, s.endExecution results =
      { s with tx := { s.tx with rep := rep }
               mgmt := { queue := s.mgmt.queue.tail, phase := .idle, todo := [], results := [] } } := by
  unfold State.endExecution
  cases hq : s.frameInHand with
  | none => exact ⟨s.tx.rep, rfl⟩
  | some f =>
    by_cases ha : f.addressed
    · rcases offerReply_cases (s := s) f results with ⟨-, h⟩ | ⟨-, h⟩
      · exact ⟨s.tx.rep, by simp [ha, h]⟩
      · exact ⟨[buildReply (frameSource f.bytes) s.pins.linkAddress results], by simp only [ha, if_true, h]⟩
    · exact ⟨s.tx.rep, by simp [ha]⟩

/-- Ending an item changes the engine and, at most, the REPLY class. -/
theorem finishItem_frame (st : Status) (data : List Byte) :
    ∃ rep mgmt, s.finishItem st data = { s with tx := { s.tx with rep := rep }, mgmt := mgmt } := by
  unfold State.finishItem
  cases hm : s.mgmt.todo with
  | nil => exact ⟨s.tx.rep, s.mgmt, rfl⟩
  | cons item rest =>
    dsimp only
    split
    · exact ⟨s.tx.rep, _, rfl⟩
    · obtain ⟨rep, h⟩ := endExecution_frame (s := s) ((s.mgmt.results ++ [itemResult item.code st data]) ++ rest.map notRunResult)
      exact ⟨rep, _, h⟩

@[simp] theorem finishItem_time (st : Status) (data : List Byte) : (s.finishItem st data).time = s.time := by
  obtain ⟨_, _, h⟩ := finishItem_frame (s := s) st data; rw [h]
@[simp] theorem finishItem_pins (st : Status) (data : List Byte) : (s.finishItem st data).pins = s.pins := by
  obtain ⟨_, _, h⟩ := finishItem_frame (s := s) st data; rw [h]
@[simp] theorem finishItem_rx (st : Status) (data : List Byte) : (s.finishItem st data).rx = s.rx := by
  obtain ⟨_, _, h⟩ := finishItem_frame (s := s) st data; rw [h]
@[simp] theorem finishItem_slots (st : Status) (data : List Byte) : (s.finishItem st data).slots = s.slots := by
  obtain ⟨_, _, h⟩ := finishItem_frame (s := s) st data; rw [h]
@[simp] theorem finishItem_routes (st : Status) (data : List Byte) : (s.finishItem st data).routes = s.routes := by
  obtain ⟨_, _, h⟩ := finishItem_frame (s := s) st data; rw [h]
@[simp] theorem finishItem_store (st : Status) (data : List Byte) : (s.finishItem st data).store = s.store := by
  obtain ⟨_, _, h⟩ := finishItem_frame (s := s) st data; rw [h]
@[simp] theorem finishItem_lanes (st : Status) (data : List Byte) : (s.finishItem st data).lanes = s.lanes := by
  obtain ⟨_, _, h⟩ := finishItem_frame (s := s) st data; rw [h]
@[simp] theorem finishItem_out (st : Status) (data : List Byte) : (s.finishItem st data).out = s.out := by
  obtain ⟨_, _, h⟩ := finishItem_frame (s := s) st data; rw [h]
@[simp] theorem finishItem_sense (st : Status) (data : List Byte) : (s.finishItem st data).sense = s.sense := by
  obtain ⟨_, _, h⟩ := finishItem_frame (s := s) st data; rw [h]
@[simp] theorem finishItem_cond (st : Status) (data : List Byte) : (s.finishItem st data).cond = s.cond := by
  obtain ⟨_, _, h⟩ := finishItem_frame (s := s) st data; rw [h]
@[simp] theorem finishItem_pending (st : Status) (data : List Byte) : (s.finishItem st data).pending = s.pending := by
  obtain ⟨_, _, h⟩ := finishItem_frame (s := s) st data; rw [h]

/-! ### Judging an item -/

/-- All that judging an item can do: nothing, where the engine executes no item of the request; a refusal by length or room;
or the request's body on its operands. -/
theorem runItem_cases (q : Request) (body : List Byte → State → State) :
    s.runItem q body = s ∨ s.runItem q body = s.finishItem .malformedRequest [] ∨
      s.runItem q body = s.finishItem .refusedSpace [] ∨
      ∃ item rest, s.mgmt.phase = .running ∧ s.mgmt.todo = item :: rest ∧ item.code = q.code ∧
        item.operands.length = q.operandLength ∧ s.runItem q body = body item.operands s := by
  unfold State.runItem
  split
  · rename_i item rest hp ht
    split
    · rename_i hc
      split
      · exact .inr (.inl rfl)
      · rename_i hl
        split
        · exact .inr (.inr (.inr ⟨item, rest, hp, ht, hc, not_not.mp hl, rfl⟩))
        · exact .inr (.inr (.inl rfl))
    · exact .inl rfl
  · exact .inl rfl

/-- An item that passes the tests of length and room runs its request's body on its operands. -/
theorem runItem_of_executing {q : Request} {ops : List Byte} {rest : List Item} (h : Executing q ops rest s)
    (body : List Byte → State → State) : s.runItem q body = body ops s := by
  unfold State.runItem
  rw [h.running, h.item]
  simp [h.length, h.room]

theorem clockTo_executing {q : Request} {ops : List Byte} {rest : List Item} (h : Executing q ops rest s) (now : Time)
    (body : List Byte → State → State) : (s.clockTo now).runItem q body = body ops (s.clockTo now) := by
  unfold State.runItem
  rw [State.clockTo_mgmt, h.running, h.item]
  have : (s.clockTo now).replyFits q = s.replyFits q := by
    simp [State.replyFits, State.frameInHand, State.replyLength]
  simp [h.length, this, h.room]

/-- A request whose command has no counter operand, on the item that passes. -/
theorem act_runItem {q : Request} {ops : List Byte} {rest : List Item} (h : Executing q ops rest s)
    (body : List Byte → State → State) : s.act (State.runItem q body) = body ops s := by
  rw [act_of_ready h.ready, runItem_of_executing h]

/-- The same for a command whose moment is `now`. -/
theorem actAt_runItem {q : Request} {ops : List Byte} {rest : List Item} (h : Executing q ops rest s) (now : Time)
    (body : List Byte → State → State) : s.actAt now (State.runItem q body) = body ops (s.clockTo now) := by
  rw [actAt_of_ready h.ready, clockTo_executing h]

end Sys2Proof.Machine
end

