-- ==== Sys2Proof/Laws/Memory.lean ====
section
/-! SUPPORT. The laws of the store memory: a write keeps the canonical form, a byte written reads back, every other byte reads
as before. -/

namespace Sys2Proof.Machine

theorem cellsFrom_mono {lo lo' : Nat} (h : lo' ≤ lo) : ∀ {m : List Host.Cell}, cellsFrom lo m = true → cellsFrom lo' m = true
  | [], _ => rfl
  | (a, b) :: rest, hm => by
    simp only [cellsFrom, Bool.and_eq_true, decide_eq_true_eq] at hm ⊢
    exact ⟨⟨⟨h.trans hm.1.1.1, hm.1.1.2⟩, hm.1.2⟩, hm.2⟩

/-- In a canonical list from `lo` on, every address is at least `lo`. -/
theorem cellsFrom_le {lo : Nat} : ∀ {m : List Host.Cell}, cellsFrom lo m = true → ∀ c ∈ m, lo ≤ c.1
  | [], _, c, hc => by simp at hc
  | (a, b) :: rest, hm, c, hc => by
    simp only [cellsFrom, Bool.and_eq_true, decide_eq_true_eq] at hm
    rcases List.mem_cons.mp hc with rfl | hc
    · exact hm.1.1.1
    · exact (hm.1.1.1.trans (Nat.le_succ a)).trans (cellsFrom_le hm.2 c hc)

/-- An address below all of a list's reads as unlisted. -/
theorem Memory.readByte_of_lt {x : Nat} : ∀ {m : List Host.Cell}, (∀ c ∈ m, x < c.1) →
    Memory.readByte m x = Config.unlistedByte
  | [], _ => rfl
  | (a, b) :: rest, h => by
    have : a ≠ x := Nat.ne_of_gt (h (a, b) (by simp))
    simp only [Memory.readByte, this, if_false]
    exact Memory.readByte_of_lt (fun c hc => h c (by simp [hc]))

theorem Memory.readByte_of_not_mem {x : Nat} : ∀ {m : List Host.Cell}, (∀ c ∈ m, c.1 ≠ x) →
    Memory.readByte m x = Config.unlistedByte
  | [], _ => rfl
  | (a, b) :: rest, h => by
    have : a ≠ x := h (a, b) (by simp)
    simp only [Memory.readByte, this, if_false]
    exact Memory.readByte_of_not_mem (fun c hc => h c (by simp [hc]))

theorem Memory.readByte_append (x : Nat) : ∀ (m n : List Host.Cell),
    Memory.readByte (m ++ n) x = if ∃ c ∈ m, c.1 = x then Memory.readByte m x else Memory.readByte n x
  | [], n => by simp
  | (a, b) :: rest, n => by
    by_cases h : a = x
    · simp [Memory.readByte, h]
    · simp only [List.cons_append, Memory.readByte, h, if_false, Memory.readByte_append x rest n, List.mem_cons,
        exists_eq_or_imp, false_or]

/-- Two canonical lists, one wholly below the other, make one. -/
theorem cellsFrom_append {lo mid : Nat} : ∀ {m n : List Host.Cell}, cellsFrom lo m = true → (∀ c ∈ m, c.1 < mid) →
    lo ≤ mid → cellsFrom mid n = true → cellsFrom lo (m ++ n) = true
  | [], n, _, _, hl, hn => cellsFrom_mono hl hn
  | (a, b) :: rest, n, hm, hlt, _, hn => by
    simp only [cellsFrom, Bool.and_eq_true, decide_eq_true_eq, List.cons_append] at hm ⊢
    exact ⟨hm.1, cellsFrom_append hm.2 (fun c hc => hlt c (by simp [hc])) (hlt (a, b) (by simp)) hn⟩

theorem cellsFrom_filter (p : Host.Cell → Bool) : ∀ {lo : Nat} {m : List Host.Cell}, cellsFrom lo m = true →
    cellsFrom lo (m.filter p) = true
  | _, [], _ => rfl
  | lo, (a, b) :: rest, hm => by
    simp only [cellsFrom, Bool.and_eq_true, decide_eq_true_eq] at hm
    have ih := cellsFrom_filter p hm.2
    by_cases h : p (a, b)
    · simp only [List.filter_cons, h, if_true, cellsFrom, Bool.and_eq_true, decide_eq_true_eq]
      exact ⟨hm.1, ih⟩
    · simp only [List.filter_cons, h]
      exact cellsFrom_mono (hm.1.1.1.trans (Nat.le_succ a)) ih

/-- From a bound on, a canonical list's cells at or above it are canonical from it. -/
theorem cellsFrom_drop {mid : Nat} : ∀ {lo : Nat} {m : List Host.Cell}, cellsFrom lo m = true →
    cellsFrom mid (m.filter (fun c => decide (mid ≤ c.1))) = true
  | _, [], _ => rfl
  | lo, (a, b) :: rest, hm => by
    simp only [cellsFrom, Bool.and_eq_true, decide_eq_true_eq] at hm
    by_cases h : mid ≤ a
    · simp only [List.filter_cons, h, decide_true, if_true, cellsFrom, Bool.and_eq_true, decide_eq_true_eq]
      exact ⟨⟨⟨trivial, hm.1.1.2⟩, hm.1.2⟩, cellsFrom_filter _ hm.2⟩
    · simp only [List.filter_cons, h, decide_false]
      exact cellsFrom_drop hm.2

theorem cellsOf_from : ∀ (a : Nat) (bs : List Byte), cellsFrom a (cellsOf a bs) = true
  | _, [] => rfl
  | a, b :: rest => by
    unfold cellsOf
    split
    · rename_i h
      simp only [cellsFrom, Bool.and_eq_true, decide_eq_true_eq]
      refine ⟨⟨⟨Nat.le_refl a, h.1⟩, ?_⟩, cellsOf_from (a + 1) rest⟩
      simpa using h.2
    · exact cellsFrom_mono (Nat.le_succ a) (cellsOf_from (a + 1) rest)

theorem cellsOf_lt : ∀ (a : Nat) (bs : List Byte), ∀ c ∈ cellsOf a bs, c.1 < a + bs.length
  | _, [], c, h => by simp [cellsOf] at h
  | a, b :: rest, c, h => by
    have ih := cellsOf_lt (a + 1) rest c
    unfold cellsOf at h
    simp only [List.length_cons]
    split at h
    · rcases List.mem_cons.mp h with rfl | h
      · simp
      · have := ih h; omega
    · have := ih h; omega

/-- R108: a write keeps the canonical form. -/
theorem Memory.write_wf (m : List Host.Cell) (base : Nat) (bytes : List Byte) (h : Memory.wf m = true) :
    Memory.wf (Memory.write m base bytes) = true := by
  unfold Memory.wf at h ⊢
  unfold Memory.write
  rw [List.append_assoc]
  refine cellsFrom_append (mid := base) (cellsFrom_filter _ h) (by simp) (Nat.zero_le _) ?_
  exact cellsFrom_append (mid := base + bytes.length) (cellsOf_from base bytes) (cellsOf_lt base bytes)
    (Nat.le_add_right _ _) (cellsFrom_drop h)

theorem readByte_cellsOf : ∀ (a : Nat) (bs : List Byte) (k : Nat), k < bs.length → a + k < memBytes →
    Memory.readByte (cellsOf a bs) (a + k) = bs.getD k 0
  | _, [], k, hk, _ => by simp at hk
  | a, b :: rest, 0, _, hm => by
    unfold cellsOf
    split
    · simp [Memory.readByte]
    · rename_i h
      have hb : b = Config.unlistedByte := by
        by_contra hb; exact h ⟨by simpa using hm, hb⟩
      rw [Memory.readByte_of_lt (fun c hc => by
        have := cellsFrom_le (cellsOf_from (a + 1) rest) c hc; omega)]
      simp [hb]
  | a, b :: rest, k + 1, hk, hm => by
    have ih := readByte_cellsOf (a + 1) rest k (by simpa using hk) (by omega)
    have e : a + (k + 1) = a + 1 + k := by omega
    unfold cellsOf
    split
    · have : a ≠ a + 1 + k := by omega
      simp only [Memory.readByte, e, this, if_false, ih, List.getD_cons_succ]
    · simp only [e, ih, List.getD_cons_succ]

theorem Memory.readByte_filter (p : Host.Cell → Bool) (x : Nat) (hp : ∀ b, p (x, b) = true) : ∀ m : List Host.Cell,
    Memory.readByte (m.filter p) x = Memory.readByte m x
  | [] => rfl
  | (a, b) :: rest => by
    have ih := Memory.readByte_filter p x hp rest
    by_cases h : p (a, b)
    · simp only [List.filter_cons, h, if_true, Memory.readByte, ih]
    · have : a ≠ x := fun e => h (e ▸ hp b)
      simp [h, Memory.readByte, this, ih]

/-- A byte inside the write reads as written. -/
theorem Memory.readByte_write_inside (m : List Host.Cell) (base : Nat) (bytes : List Byte) (k : Nat)
    (hk : k < bytes.length) (hm : base + k < memBytes) :
    Memory.readByte (Memory.write m base bytes) (base + k) = bytes.getD k 0 := by
  unfold Memory.write
  rw [List.append_assoc, Memory.readByte_append, if_neg (by simp), Memory.readByte_append]
  split
  · exact readByte_cellsOf base bytes k hk hm
  · rename_i h
    have hno : ∀ c ∈ cellsOf base bytes, c.1 ≠ base + k := fun c hc e => h ⟨c, hc, e⟩
    rw [← readByte_cellsOf base bytes k hk hm, Memory.readByte_of_not_mem hno, Memory.readByte_of_not_mem]
    intro c hc
    have := (List.mem_filter.mp hc).2
    simp only [decide_eq_true_eq] at this
    omega

/-- A byte outside the write reads as before. -/
theorem Memory.readByte_write_outside (m : List Host.Cell) (base : Nat) (bytes : List Byte) (x : Nat)
    (hx : x < base ∨ base + bytes.length ≤ x) :
    Memory.readByte (Memory.write m base bytes) x = Memory.readByte m x := by
  have hmid : ∀ c ∈ cellsOf base bytes, c.1 ≠ x := by
    intro c hc
    have h1 := cellsFrom_le (cellsOf_from base bytes) c hc
    have h2 := cellsOf_lt base bytes c hc
    omega
  unfold Memory.write
  rw [List.append_assoc, Memory.readByte_append]
  rcases hx with hx | hx
  · split
    · exact Memory.readByte_filter _ x (by simp [hx]) m
    · rename_i h
      have h0 : ∀ c ∈ m, c.1 ≠ x := by
        intro c hc e
        exact h ⟨c, List.mem_filter.mpr ⟨hc, by simp [e, hx]⟩, e⟩
      rw [Memory.readByte_append, if_neg (by rintro ⟨c, hc, e⟩; exact hmid c hc e), Memory.readByte_of_not_mem h0,
        Memory.readByte_of_not_mem (fun c hc => h0 c (List.mem_filter.mp hc).1)]
  · rw [if_neg (by rintro ⟨c, hc, e⟩; have := (List.mem_filter.mp hc).2; simp only [decide_eq_true_eq] at this; omega),
      Memory.readByte_append, if_neg (by rintro ⟨c, hc, e⟩; exact hmid c hc e)]
    exact Memory.readByte_filter _ x (by simp [hx]) m

/-- The memory after reset is canonical. -/
theorem State.reset_memory_wf : Memory.wf State.reset.store.mem = true := rfl

end Sys2Proof.Machine
end

