-- ==== Sys2Proof/Laws/Store.lean ====
section
/-! SUPPORT. What the shared operations of the jitter store can do, once: the page map, the release point, the arbiter, a
placement's end, the freeing of a route. -/

namespace Sys2Proof.Machine

open Sys2Proof.Safety

variable {s : State}

/-! ### The page map -/

theorem fillRun_length {α : Type} (l : List α) (first len : Nat) (v : α) (h : first + len ≤ l.length) :
    (fillRun l first len v).length = l.length := by
  simp [fillRun]; omega

/-- A run filled with an owner reads as that owner, and every other page as before. -/
theorem fillRun_get {α : Type} (l : List α) (first len p : Nat) (v : α) (h : first + len ≤ l.length) :
    (fillRun l first len v)[p]? = if first ≤ p ∧ p < first + len then some v else l[p]? := by
  have hl : (l.take first).length = first := by simp; omega
  simp only [fillRun, List.append_assoc]
  by_cases h1 : p < first
  · rw [List.getElem?_append_left (by omega), List.getElem?_take_of_lt h1, if_neg (by omega)]
  · rw [List.getElem?_append_right (by omega), hl]
    by_cases h2 : p < first + len
    · rw [List.getElem?_append_left (by simp; omega), List.getElem?_replicate, if_pos (by omega), if_pos (by omega)]
    · rw [List.getElem?_append_right (by simp; omega), List.length_replicate, List.getElem?_drop, if_neg (by omega)]
      congr 1; omega

@[simp] theorem ownPages_pages (first len : Nat) (o : Option RouteId) :
    (s.ownPages first len o).store.pages = fillRun s.store.pages first len o := rfl
@[simp] theorem ownPages_route (first len : Nat) (o : Option RouteId) (r : RouteId) :
    (s.ownPages first len o).route r = s.route r := rfl
@[simp] theorem ownPages_lane (first len : Nat) (o : Option RouteId) (i : LaneId) :
    (s.ownPages first len o).lane i = s.lane i := rfl

/-! ### The release point -/

@[simp] theorem moveRelease_state (t : Route) (q : Seq) : (t.moveRelease q).state = t.state := rfl
@[simp] theorem moveRelease_config (t : Route) (q : Seq) : (t.moveRelease q).config = t.config := rfl
@[simp] theorem moveRelease_release (t : Route) (q : Seq) : (t.moveRelease q).release = some q := rfl
@[simp] theorem moveRelease_counters (t : Route) (q : Seq) : (t.moveRelease q).counters = t.counters := rfl
@[simp] theorem moveRelease_nextSeq (t : Route) (q : Seq) : (t.moveRelease q).nextSeq = t.nextSeq := rfl
@[simp] theorem moveRelease_lastStamp (t : Route) (q : Seq) : (t.moveRelease q).lastStamp = t.lastStamp := rfl
@[simp] theorem moveRelease_dir_length (t : Route) (q : Seq) : (t.moveRelease q).dir.length = t.dir.length := by
  simp [Route.moveRelease]

/-- A VALID entry that stays was VALID before and has not been passed. -/
theorem passedBy_valid (rp : Seq) (e : DirEntry) (f : StoredFrame) :
    passedBy rp e = .valid f ↔ e = .valid f ∧ 0 ≤ seqDist rp f.seq := by
  cases e with
  | invalid => simp [passedBy]
  | inPlacement q => simp [passedBy]
  | valid g =>
    by_cases h : seqDist rp g.seq < 0
    · simp only [passedBy, h, if_true]
      constructor
      · intro h'; cases h'
      · rintro ⟨h', h0⟩; injection h' with h'; subst h'; omega
    · simp only [passedBy, h, if_false, DirEntry.valid.injEq]
      constructor
      · rintro rfl; exact ⟨rfl, by omega⟩
      · exact fun h' => h'.1

/-- The hold chosen is one of those given and none lies before it. -/
theorem earliestHold_some (rp : Seq) : ∀ (l : List Seq) (q : Seq), earliestHold rp l = some q →
    q ∈ l ∧ ∀ x ∈ l, seqDist rp q ≤ seqDist rp x := by
  intro l
  induction l with
  | nil => intro q h; simp [earliestHold] at h
  | cons a rest ih =>
    intro q h
    simp only [earliestHold] at h
    cases hr : earliestHold rp rest with
    | none =>
      rw [hr] at h
      injection h with h; subst h
      have : rest = [] := by
        cases rest with
        | nil => rfl
        | cons b more =>
            simp only [earliestHold] at hr
            split at hr
            · cases hr
            · split at hr <;> cases hr
      subst this; simp
    | some m =>
      obtain ⟨hm, hmin⟩ := ih m hr
      rw [hr] at h
      dsimp only at h
      split at h <;> rename_i hle <;> injection h with h <;> subst h
      · refine ⟨by simp, fun x hx => ?_⟩
        rcases List.mem_cons.mp hx with rfl | hx
        · exact le_refl _
        · exact le_trans hle (hmin x hx)
      · refine ⟨List.mem_cons_of_mem _ hm, fun x hx => ?_⟩
        rcases List.mem_cons.mp hx with rfl | hx
        · omega
        · exact hmin x hx

/-- R115: a recomputation leaves the state, or moves one route's release point forward to its earliest hold. -/
theorem recompute_cases (r : RouteId) :
    s.recompute r = s ∨ ∃ rp q, (s.route r).release = some rp ∧ q ∈ s.holds r ∧ 0 < seqDist rp q ∧
      (∀ x ∈ s.holds r, seqDist rp q ≤ seqDist rp x) ∧
      s.recompute r = s.setRoute r ((s.route r).moveRelease q) := by
  unfold State.recompute
  split
  · exact .inl rfl
  · rename_i rp hrp
    split
    · exact .inl rfl
    · rename_i q hq
      split
      · rename_i hpos
        obtain ⟨hm, hmin⟩ := earliestHold_some rp _ q hq
        exact .inr ⟨rp, q, hrp, hm, hpos, hmin, rfl⟩
      · exact .inl rfl

/-- A recomputation changes one route's release point and directory, and nothing else. -/
theorem recompute_frame (r : RouteId) :
    ∃ release dir, s.recompute r = s.setRoute r { s.route r with release := release, dir := dir } := by
  rcases recompute_cases (s := s) r with h | ⟨_, q, _, _, _, _, h⟩
  · refine ⟨(s.route r).release, (s.route r).dir, ?_⟩
    rw [h]
    simp only [State.setRoute, State.route]
    have : s.routes.set r.val s.routes[r] r.isLt = s.routes := by simp
    rw [this]
  · exact ⟨some q, (s.route r).dir.map (passedBy q), h⟩

theorem seqDist_inj {rp q x : Seq} (h : seqDist rp q = seqDist rp x) : q = x := by
  have := BitVec.eq_of_toInt_eq h
  bv_omega

/-- R115: a recomputation, in the terms of Safety.lean. -/
theorem recompute_followed (r : RouteId) : ReleaseFollowed (s.holds r) (s.route r) ((s.recompute r).route r) := by
  refine ⟨fun h => ?_, fun rp q hrp hq hmin => ?_⟩
  · rcases recompute_cases (s := s) r with h' | ⟨rp, q, hrp, hq, -⟩
    · rw [h']; exact ⟨rfl, rfl⟩
    · rcases h with h | h
      · rw [h] at hrp; cases hrp
      · rw [h] at hq; cases hq
  · have found : earliestHold rp (s.holds r) = some q := by
      cases he : earliestHold rp (s.holds r) with
      | none =>
        cases hl : s.holds r with
        | nil => rw [hl] at hq; cases hq
        | cons a l =>
          rw [hl] at he
          simp only [earliestHold] at he
          split at he
          · cases he
          · split at he <;> cases he
      | some m =>
        obtain ⟨hm, hle⟩ := earliestHold_some rp _ m he
        rw [seqDist_inj (le_antisymm (hle q hq) (hmin m hm))]
    constructor
    · intro h
      simp [State.recompute, hrp, found, h]; rfl
    · intro h
      simp [State.recompute, hrp, found, Int.not_lt.mpr h]

/-- The hold sequences are the lanes' alone. -/
@[simp] theorem holds_setRoute (r q : RouteId) (t : Route) : (s.setRoute q t).holds r = s.holds r := rfl

@[simp] theorem holds_recompute (r q : RouteId) : (s.recompute q).holds r = s.holds r := by
  obtain ⟨_, _, h⟩ := recompute_frame (s := s) q
  rw [h]; rfl

/-! ### The arbiter -/

/-- The reader found is the first that waits. -/
theorem firstReader_some (reads : Vector (List Nat) 4) : ∀ (l : List LaneId) (i : LaneId) (p : Nat) (more : List Nat),
    firstReader reads l = some (i, p, more) → i ∈ l ∧ reads[i] = p :: more := by
  intro l
  induction l with
  | nil => intro i p more h; simp [firstReader] at h
  | cons j rest ih =>
    intro i p more h
    simp only [firstReader] at h
    split at h
    · rename_i hj
      simp only [Option.some.injEq, Prod.mk.injEq] at h
      obtain ⟨rfl, rfl, rfl⟩ := h
      exact ⟨by simp, hj⟩
    · obtain ⟨hi, hr⟩ := ih i p more h
      exact ⟨List.mem_cons_of_mem _ hi, hr⟩

/-- No reader is found exactly where none of the lanes waits. -/
theorem firstReader_none (reads : Vector (List Nat) 4) : ∀ (l : List LaneId),
    firstReader reads l = none ↔ ∀ i ∈ l, reads[i] = [] := by
  intro l
  induction l with
  | nil => simp [firstReader]
  | cons j rest ih =>
    simp only [firstReader]
    split
    · rename_i hj
      refine ⟨?_, ?_⟩
      · rintro ⟨⟩
      · intro h
        rw [h j List.mem_cons_self] at hj
        cases hj
    · rename_i hj
      rw [ih]
      constructor
      · intro h i hi
        rcases List.mem_cons.mp hi with rfl | hi
        · exact hj
        · exact h i hi
      · exact fun h i hi => h i (List.mem_cons_of_mem _ hi)

/-- R122: the arbiter changes the burst and the waiting reads, and nothing else. -/
theorem arbitrate_frame :
    ∃ burst reads, s.arbitrate = { s with store := { s.store with burst := burst, reads := reads } } := by
  unfold State.arbitrate
  split
  · exact ⟨s.store.burst, s.store.reads, rfl⟩
  · split
    · exact ⟨_, _, rfl⟩
    · split
      · split
        · exact ⟨_, s.store.reads, rfl⟩
        · exact ⟨s.store.burst, s.store.reads, rfl⟩
      · exact ⟨s.store.burst, s.store.reads, rfl⟩

/-- R122: a burst under way is not disturbed. -/
theorem arbitrate_of_burst {b : Burst} (h : s.store.burst = some b) : s.arbitrate = s := by
  simp [State.arbitrate, h]

/-- R122: the lane of lowest number with a read waiting is the reader found. -/
theorem firstReader_lowest (reads : Vector (List Nat) 4) (i : LaneId) (p : Nat) (more : List Nat) (hi : reads[i] = p :: more)
    (hlow : ∀ j, j < i → reads[j] = []) : firstReader reads allLanes = some (i, p, more) := by
  have low : ∀ j : LaneId, j < i → reads[j] = [] := hlow
  fin_cases i
  · simp_all [allLanes, firstReader]
  · have h0 := low 0 (by decide)
    simp_all [allLanes, firstReader]
  · have h0 := low 0 (by decide)
    have h1 := low 1 (by decide)
    simp_all [allLanes, firstReader]
  · have h0 := low 0 (by decide)
    have h1 := low 1 (by decide)
    have h2 := low 2 (by decide)
    simp_all [allLanes, firstReader]

/-- R122: what the arbiter does, in the terms of Safety.lean. -/
theorem arbitrate_granted : Granted s.store s.arbitrate.store := by
  refine ⟨fun h => ?_, fun h => ⟨fun i p more hi hlow => ?_, fun hnone => ⟨fun p hp ha hw => ?_, fun hstill => ?_⟩⟩⟩
  · obtain ⟨b, hb⟩ := Option.ne_none_iff_exists'.mp h
    rw [arbitrate_of_burst hb]
  · simp [State.arbitrate, h, firstReader_lowest s.store.reads i p more hi hlow]
  · have hr : firstReader s.store.reads allLanes = none := (firstReader_none _ _).mpr fun i _ => hnone i
    have hw' : p.waiting = true := by simp [Placement.waiting, ha, framePages, hw]
    simp [State.arbitrate, h, hr, hp, hw', Placement.nextBurst, Config.pageBytes]
  · have hr : firstReader s.store.reads allLanes = none := (firstReader_none _ _).mpr fun i _ => hnone i
    cases hp : s.store.placement with
    | none => simp [State.arbitrate, h, hr, hp]
    | some p =>
      have hw : p.waiting = false := by
        rcases hstill p hp with ha | hw
        · simp [Placement.waiting, ha]
        · simp [Placement.waiting, framePages, Nat.not_lt.mpr hw]
      simp [State.arbitrate, h, hr, hp, hw]

/-! ### Freeing a route -/

/-- R125: a waiting SLOT-PEEK withdrawn changes the engine and, at most, the REPLY class. -/
theorem withdrawPeek_frame (r : RouteId) :
    ∃ rep mgmt, s.withdrawPeek r = { s with tx := { s.tx with rep := rep }, mgmt := mgmt } := by
  unfold State.withdrawPeek
  split
  · split
    · exact finishItem_frame _ _
    · exact ⟨s.tx.rep, s.mgmt, rfl⟩
  · exact ⟨s.tx.rep, s.mgmt, rfl⟩

@[simp] theorem withdrawPeek_store (r : RouteId) : (s.withdrawPeek r).store = s.store := by
  obtain ⟨_, _, h⟩ := withdrawPeek_frame (s := s) r; rw [h]
@[simp] theorem withdrawPeek_lanes (r : RouteId) : (s.withdrawPeek r).lanes = s.lanes := by
  obtain ⟨_, _, h⟩ := withdrawPeek_frame (s := s) r; rw [h]
@[simp] theorem withdrawPeek_slots (r : RouteId) : (s.withdrawPeek r).slots = s.slots := by
  obtain ⟨_, _, h⟩ := withdrawPeek_frame (s := s) r; rw [h]
@[simp] theorem withdrawPeek_cond (r : RouteId) : (s.withdrawPeek r).cond = s.cond := by
  obtain ⟨_, _, h⟩ := withdrawPeek_frame (s := s) r; rw [h]
@[simp] theorem withdrawPeek_route (r q : RouteId) : (s.withdrawPeek r).route q = s.route q := by
  obtain ⟨_, _, h⟩ := withdrawPeek_frame (s := s) r; rw [h]; rfl

/-- R103, R112: freeing a route leaves its counters and gives its pages back; no other route, no lane and no slot changes. -/
theorem freeRoute_spec (r : RouteId) :
    (s.freeRoute r).route r = { Route.unused with counters := (s.route r).counters } ∧
      (∀ q, q ≠ r → (s.freeRoute r).route q = s.route q) ∧
      (∀ c, (s.route r).config = some c →
        (s.freeRoute r).store = { s.store with pages := fillRun s.store.pages c.firstPage (c.depth * c.slotPages) none }) ∧
      ((s.route r).config = none → (s.freeRoute r).store = s.store) ∧
      (s.freeRoute r).lanes = s.lanes ∧ (s.freeRoute r).slots = s.slots ∧ (s.freeRoute r).cond = s.cond := by
  unfold State.freeRoute
  cases hc : (s.route r).config with
  | none =>
    refine ⟨by simp, fun q hq => by simp [State.modRoute_route_ne, hq], by rintro c ⟨⟩, fun _ => by simp, ?_, ?_, ?_⟩ <;> simp
  | some c =>
    refine ⟨by simp, fun q hq => by simp [State.modRoute_route_ne, hq], ?_, by rintro ⟨⟩, ?_, ?_, ?_⟩
    · rintro c' ⟨⟩; simp; rfl
    all_goals simp

/-- R103: a route is freed where it is DRAINING with no lane bound and no placement in flight, and left alone otherwise. -/
theorem tryFree_cases (r : RouteId) :
    ((s.route r).state = .draining ∧ s.hasLane r = false ∧ s.placing r = false ∧ s.tryFree r = s.freeRoute r) ∨
      (¬ ((s.route r).state = .draining ∧ s.hasLane r = false ∧ s.placing r = false) ∧ s.tryFree r = s) := by
  unfold State.tryFree
  split
  · rename_i h; exact .inl ⟨h.1, h.2.1, h.2.2, rfl⟩
  · rename_i h; exact .inr ⟨h, rfl⟩

end Sys2Proof.Machine
end

