-- ==== Sys2Proof/Laws/Lanes.lean ====
section
/-! SUPPORT. What the shared operations on lanes can do, once: a lane leaving PRIME, a cause from outside, an unbinding. Each
leaves every other lane as it is, and of the routes changes at most one's release point and directory. And what an acceptance
makes of a sense input. -/

namespace Sys2Proof.Machine

open Sys2Proof.Safety

variable {s : State}

/-- The lanes' moves outside the steps: one lane replaced, and at most one route's release point and directory moved. -/
def LaneMove (i : LaneId) (l : Lane) (s t : State) : Prop :=
  t = s.setLane i l ∨ ∃ r release dir, (s.lane i).route = some r ∧
    t = (s.setLane i l).setRoute r { s.route r with release := release, dir := dir }

theorem LaneMove.lane {i : LaneId} {l : Lane} {t : State} (h : LaneMove i l s t) : t.lane i = l := by
  rcases h with h | ⟨r, _, _, -, h⟩ <;> simp [h]

theorem LaneMove.lane_ne {i j : LaneId} {l : Lane} {t : State} (h : LaneMove i l s t) (hj : j ≠ i) :
    t.lane j = s.lane j := by
  rcases h with h | ⟨r, _, _, -, h⟩ <;> simp [h, State.setLane_lane_ne, hj]

theorem LaneMove.route {i : LaneId} {l : Lane} {t : State} (h : LaneMove i l s t) (q : RouteId) :
    t.route q = { s.route q with release := (t.route q).release, dir := (t.route q).dir } := by
  rcases h with h | ⟨r, _, _, -, h⟩
  · simp [h]
  · rw [h, State.setRoute_route]; split
    · rename_i hq; subst hq; rfl
    · rfl

/-- No other route than the lane's own changes. -/
theorem LaneMove.route_other {i : LaneId} {l : Lane} {t : State} (h : LaneMove i l s t) (q : RouteId)
    (hq : (s.lane i).route ≠ some q) : t.route q = s.route q := by
  rcases h with h | ⟨r, _, _, hr, h⟩
  · simp [h]
  · have : q ≠ r := by rintro rfl; exact hq hr
    simp [h, State.setRoute_route_ne, this]

/-- Everything but lanes and routes is kept. -/
theorem LaneMove.rest {i : LaneId} {l : Lane} {t : State} (h : LaneMove i l s t) :
    { t with lanes := s.lanes, routes := s.routes } = s := by
  rcases h with h | ⟨r, _, _, -, h⟩ <;> rw [h] <;> rfl

/-- R115, R135, R141: a lane that leaves takes its new record, and its route recomputes its release point. -/
theorem leaveTo_move (i : LaneId) (l : Lane) : LaneMove i l s (s.leaveTo i l) := by
  unfold State.leaveTo
  split
  · rename_i r hr
    obtain ⟨release, dir, h⟩ := recompute_frame (s := s.setLane i l) r
    exact .inr ⟨r, release, dir, hr, h⟩
  · exact .inl rfl

/-- R115: the route that a lane leaves follows the holds that remain. -/
theorem leaveTo_followed {i : LaneId} {r : RouteId} (h : (s.lane i).route = some r) (l : Lane) :
    ReleaseFollowed ((s.leaveTo i l).holds r) (s.route r) ((s.leaveTo i l).route r) := by
  simp only [State.leaveTo, h, holds_recompute]
  exact recompute_followed r

theorem startHold_clearPlay (now : Time) (l : Lane) : l.clearPlay.startHold now = stoppedConsuming now l := by
  cases l; rename_i mode _ _ _ _ _ _ _; cases mode <;> rfl

/-- R135: the move from PRIME to WAIT, and from PRIME to STOP. -/
theorem primeToWait_move (i : LaneId) :
    LaneMove i { stoppedConsuming s.time.lmc (s.lane i) with state := .wait } s (s.primeToWait i) := by
  unfold State.primeToWait; rw [startHold_clearPlay]; exact leaveTo_move i _

theorem primeToStop_move (i : LaneId) :
    LaneMove i { stoppedConsuming s.time.lmc (s.lane i) with state := .stop, route := none } s (s.primeToStop i) := by
  unfold State.primeToStop; rw [startHold_clearPlay]; exact leaveTo_move i _

theorem modLane_move (i : LaneId) (f : Lane → Lane) : LaneMove i (f (s.lane i)) s (s.modLane i f) := .inl rfl

/-- R84, R140: a cause with destination WAIT, of a lane not in PRIME. -/
theorem cause_wait {l : Lane} (h : l.state ≠ .prime) (now : Time) : l.cause .wait = afterWaitCause now l := by
  cases l; rename_i st _ _ _ _ _ _ _ _ _ _ ramp _
  cases st <;> first | rfl | (exact absurd rfl h) | skip
  rcases ramp with _ | _ | _ <;> rfl

/-- R102, R140: a cause with destination STOP, of a lane in PLAY or RAMPDOWN. -/
theorem cause_stop {l : Lane} (h : l.state = .play ∨ l.state = .rampdown) (now : Time) :
    l.cause .stop = afterStopCause now l := by
  cases l; rename_i st _ _ _ _ _ _ _ _ _ _ ramp _
  cases st <;> simp at h
  · rfl
  · rcases ramp with _ | _ | _ <;> rfl

/-- R84, R166: a cause with destination WAIT makes of the lane what its state says. -/
theorem waitCause_move (i : LaneId) : LaneMove i (afterWaitCause s.time.lmc (s.lane i)) s (s.waitCause i) := by
  unfold State.waitCause
  cases hs : (s.lane i).state
  case prime =>
    rw [if_pos rfl]
    have : afterWaitCause s.time.lmc (s.lane i) = { stoppedConsuming s.time.lmc (s.lane i) with state := .wait } := by
      simp [afterWaitCause, hs]
    rw [this]; exact primeToWait_move i
  all_goals
    rw [if_neg (by decide)]
    have : afterWaitCause s.time.lmc (s.lane i) = Lane.cause .wait (s.lane i) :=
      (cause_wait (by simp [hs]) _).symm
    rw [this]; exact modLane_move i _

/-- R164: an unbinding drops a staged change and makes of the lane what a cause with destination STOP does. -/
theorem drainLane_move (i : LaneId) : LaneMove i (afterStopCause s.time.lmc (s.lane i)) s (s.drainLane i) := by
  unfold State.drainLane
  cases hs : (s.lane i).state
  case stop =>
    have : afterStopCause s.time.lmc (s.lane i) = s.lane i := by simp [afterStopCause, hs]
    rw [this]
    have h : s.setLane i (s.lane i) = s := by
      simp only [State.setLane, State.lane]
      have : s.lanes.set i.val s.lanes[i] i.isLt = s.lanes := by simp
      rw [this]
    exact .inl h.symm
  case prime =>
    have : afterStopCause s.time.lmc (s.lane i) =
        { stoppedConsuming s.time.lmc (s.lane i) with state := .stop, route := none } := by simp [afterStopCause, hs]
    rw [this]; exact primeToStop_move i
  case wait =>
    have : afterStopCause s.time.lmc (s.lane i) = { s.lane i with state := .stop, route := none } := by
      simp [afterStopCause, hs]
    rw [this]; exact modLane_move i (fun l => { l with state := .stop, route := none })
  all_goals
    have : afterStopCause s.time.lmc (s.lane i) = Lane.cause .stop (s.lane i) :=
      (cause_stop (by simp [hs]) _).symm
    rw [this]; exact modLane_move i _

/-! ### Sense inputs -/

/-- R175: a sampled pin, in the terms of Safety.lean. -/
theorem sample_eq (pin : Bool) (x : SenseInput) : x.sample pin = sampledInput pin x := rfl

@[simp] theorem waitCause_input (i : LaneId) (k : InputId) : (s.waitCause i).input k = s.input k := by
  have h : (s.waitCause i).sense = s.sense := by
    have := (waitCause_move (s := s) i).rest
    rw [← congrArg State.sense this]
  simp only [State.input, h]

@[simp] theorem muteLanes_input (k : InputId) : s.muteLanes.input k = s.input k := by
  simp [State.muteLanes, allLanes]

/-- R175, R176: an acceptance leaves its input as the rules say, whether it mutes the lanes or not. -/
theorem senseAcceptAct_input (i : InputId) : (s.senseAcceptAct i).input i = acceptedInput (s.input i) := by
  simp only [State.senseAcceptAct, acceptedInput, Config.debounce]
  by_cases h : (s.input i).run < 48
  · simp [h]
  · by_cases ha : (s.input i).accepted = true
    · simp [h, ha]
    · rw [if_neg h, if_neg ha, if_neg h, if_neg ha]
      by_cases hm : (!s.muted && ((s.input i).latch || (s.input i).action == .muteAll)) = true
      · rw [if_pos hm, muteLanes_input]; simp
      · rw [if_neg hm]; simp

end Sys2Proof.Machine
end

