-- ==== Sys2Proof/Laws/PerInstr.lean ====
section
/-! SUPPORT. For each command, what its operands must be for its event to be able to have them: R1 and R19 for words, R34 and
R52 for counter values; every other command takes any operand. -/

namespace Sys2Proof.Laws.Operands

open Sys2Proof Sys2Proof.Machine

/-- The operands of the command are well formed exactly when they are those of its event. -/
def Statement (i : Instr) : Prop :=
  match i with
  | .dataByteArrival w => i.wellFormed = true ↔ w.getLsbD 8 = false ∨ goodParity w = false
  | .badCodeArrival _ c => i.wellFormed = true ↔ c ∉ ([0x3C, 0xA5, 0x5A, 0xF0] : List Byte)
  | .outputInstant now _ _ _ => i.wellFormed = true ↔ 512 ∣ now.toNat
  | .tickDue now _ =>
    i.wellFormed = true ↔ ∃ b, 16 ≤ b ∧ b ≤ 27 ∧ now.toNat % 2 ^ (b + 1) = 2 ^ b
  | _ => i.wellFormed = true

theorem dataByteArrival (word : LinkWord) : Statement (Instr.dataByteArrival word) := by
  simp only [Statement, Instr.wellFormed, LinkWord.isByteArrival, goodParity, onesOf]
  cases word.getLsbD 8 <;> simp

theorem badCodeArrival (parity : Bool) (code : Byte) : Statement (Instr.badCodeArrival parity code) := by
  simp [Statement, Instr.wellFormed, Byte.isBadCode, and_assoc]

theorem outputInstant (now : Time) (sns0 sns1 senseFirst : Bool) :
    Statement (Instr.outputInstant now sns0 sns1 senseFirst) := by
  simp [Statement, Instr.wellFormed, Time.isInstant, Nat.dvd_iff_mod_eq_zero]

theorem tickDue (now : Time) (order : List SlotId) : Statement (Instr.tickDue now order) := by
  simp only [Statement, Instr.wellFormed, Time.isTick, List.any_eq_true, List.mem_range, beq_iff_eq]
  constructor
  · rintro ⟨j, hj, h⟩
    exact ⟨j + 16, by omega, by omega, h⟩
  · rintro ⟨b, h1, h2, h⟩
    obtain ⟨j, rfl⟩ : ∃ j, b = j + 16 := ⟨b - 16, by omega⟩
    exact ⟨j, by omega, h⟩

theorem powerOnReset : Statement Instr.powerOnReset := rfl
theorem rstnRelease (adr : BitVec 4) (aenpol : Bool) : Statement (Instr.rstnRelease adr aenpol) := rfl
theorem sofArrival (now : Time) (parity : Bool) : Statement (Instr.sofArrival now parity) := rfl
theorem eofArrival (parity : Bool) : Statement (Instr.eofArrival parity) := rfl
theorem abtArrival (parity : Bool) : Statement (Instr.abtArrival parity) := rfl
theorem idleArrival (parity : Bool) : Statement (Instr.idleArrival parity) := rfl
theorem dispatch (now : Time) : Statement (Instr.dispatch now) := rfl
theorem filterBlockComplete (slot : SlotId) : Statement (Instr.filterBlockComplete slot) := rfl
theorem mgmtCopyEnd : Statement Instr.mgmtCopyEnd := rfl
theorem storeBurstEnd : Statement Instr.storeBurstEnd := rfl
theorem placementComplete : Statement Instr.placementComplete := rfl
theorem departureStart (now : Time) : Statement (Instr.departureStart now) := rfl
theorem departureEnd : Statement Instr.departureEnd := rfl
theorem txholdAssert : Statement Instr.txholdAssert := rfl
theorem txholdRelease : Statement Instr.txholdRelease := rfl
theorem rampInEnd (lane : LaneId) : Statement (Instr.rampInEnd lane) := rfl
theorem rampEnd (lane : LaneId) : Statement (Instr.rampEnd lane) := rfl
theorem ampHoldExpiry (now : Time) (lane : LaneId) : Statement (Instr.ampHoldExpiry now lane) := rfl
theorem senseAccept (input : InputId) : Statement (Instr.senseAccept input) := rfl
theorem monitorWindowEnd (edges : Nat) : Statement (Instr.monitorWindowEnd edges) := rfl
theorem streamDue (now : Time) (slot : SlotId) : Statement (Instr.streamDue now slot) := rfl
theorem soundingTimeout (now : Time) (slot : SlotId) : Statement (Instr.soundingTimeout now slot) := rfl
theorem holdoverEntered (slot : SlotId) : Statement (Instr.holdoverEntered slot) := rfl
theorem leaderLost (slot : SlotId) : Statement (Instr.leaderLost slot) := rfl
theorem mgmtFrameBegin : Statement Instr.mgmtFrameBegin := rfl
theorem unknownRequest : Statement Instr.unknownRequest := rfl
theorem identify : Statement Instr.identify := rfl
theorem status : Statement Instr.status := rfl
theorem conditionsClear : Statement Instr.conditionsClear := rfl
theorem conditionsMask : Statement Instr.conditionsMask := rfl
theorem timebaseSelect : Statement Instr.timebaseSelect := rfl
theorem groupSet (now : Time) : Statement (Instr.groupSet now) := rfl
theorem groupClear : Statement Instr.groupClear := rfl
theorem groupSound : Statement Instr.groupSound := rfl
theorem groupMeasure : Statement Instr.groupMeasure := rfl
theorem routeArm : Statement Instr.routeArm := rfl
theorem routeDisarm (now : Time) : Statement (Instr.routeDisarm now) := rfl
theorem routeCounts : Statement Instr.routeCounts := rfl
theorem laneBind (now : Time) : Statement (Instr.laneBind now) := rfl
theorem laneWaitEnd (now : Time) : Statement (Instr.laneWaitEnd now) := rfl
theorem laneUnbind (now : Time) : Statement (Instr.laneUnbind now) := rfl
theorem laneGain : Statement Instr.laneGain := rfl
theorem senseAction : Statement Instr.senseAction := rfl
theorem slotPeek : Statement Instr.slotPeek := rfl
theorem slotPeekGrant : Statement Instr.slotPeekGrant := rfl
theorem pageRuns : Statement Instr.pageRuns := rfl
theorem deviceReset : Statement Instr.deviceReset := rfl

end Sys2Proof.Laws.Operands
end

