-- ==== Sys2Proof/Laws/Playout.lean ====
section
/-! SUPPORT. What the operations of a return, of a lane's step and of the transmit line can do, once each, in the terms of
Safety.lean: citing these, a proof need not unfold the operation. -/

namespace Sys2Proof.Machine

open Sys2Proof.Safety

variable {s : State}

/-! ### The transmit line -/

theorem txLine_reset (h : s.pins.inReset = true) : s.txLine = .silent := by simp [State.txLine, h]
theorem txLine_free (h : s.pins.inReset = false) (hd : s.tx.departing = none) : s.txLine = .idle idleWord := by
  simp [State.txLine, h, hd]
theorem txLine_sending {d : Departing} (h : s.pins.inReset = false) (hd : s.tx.departing = some d) :
    s.txLine = .frame (wordsAfterSof d.bytes) := by
  simp [State.txLine, h, hd]

/-! ### Returns -/

/-- R79, R81: what a raised lost count calls for. -/
theorem lossEventFor_eq (st : GroupState) (c : SlotConfig) (lost : Nat) : lossEventFor st c lost = lossDueAt st c lost := by
  cases st <;> simp [lossEventFor, lossDueAt]

/-- R66. -/
theorem restartFilter_eq (g : GroupSlot) : g.restartFilter = filterEmptied g := rfl

/-- R63, R80: a completed sounding. -/
theorem complete_eq (g : GroupSlot) : g.complete = soundingCompleted g := rfl

/-- R65: a history with one more path. -/
theorem pushHistory_eq (h : List Nat) (p : Nat) : pushHistory h p = historyWith p h := by
  unfold pushHistory historyWith Config.historyEntries
  by_cases hl : h.length < 8
  · rw [if_neg (by omega), if_pos hl]
  · rw [if_pos (by omega), if_neg hl]

/-- R65: a path passes the gate unless some path of the history lies further below it than the gate. -/
theorem historyFloor_lt (gate p : Nat) : ∀ h : List Nat, historyFloor h p + gate < p ↔ ∃ x ∈ h, x + gate < p := by
  have key : ∀ (h : List Nat) (m : Nat), h.foldl min m + gate < p ↔ m + gate < p ∨ ∃ x ∈ h, x + gate < p := by
    intro h
    induction h with
    | nil => simp
    | cons x rest ih =>
      intro m
      rw [List.foldl_cons, ih]
      simp only [List.mem_cons, exists_eq_or_imp]
      constructor
      · rintro (h | h)
        · rcases Nat.le_total m x with hm | hm
          · exact .inl (by rwa [Nat.min_eq_left hm] at h)
          · exact .inr (.inl (by rwa [Nat.min_eq_right hm] at h))
        · exact .inr (.inr h)
      · rintro (h | h | h)
        · exact .inl (Nat.lt_of_le_of_lt (Nat.add_le_add_right (Nat.min_le_left m x) _) h)
        · exact .inl (Nat.lt_of_le_of_lt (Nat.add_le_add_right (Nat.min_le_right m x) _) h)
        · exact .inr h
  intro h
  rw [historyFloor, key]
  exact ⟨fun h => h.resolve_left (by omega), .inr⟩

/-! ### Frame entry -/

theorem applySettings_eq (v : Settings) (l : Lane) : l.applySettings v = withSettings v l := by
  cases h : v.amp <;> simp [Lane.applySettings, withSettings, h]

theorem rampDown_eq (dest : Destination) (l : Lane) : l.rampDown dest = rampingDown dest l := rfl

theorem enter_eq (g : StoredFrame) (l : Lane) : l.enter g = entering g l := rfl

theorem conceal_eq (c : RouteConfig) (f : CurrentFrame) (l : Lane) : l.conceal c f = concealing c f l := by
  cases h : c.concealMode <;> simp [Lane.conceal, concealing, CurrentFrame.nextPt, h]

theorem pastEnd_iff (l : Lane) : l.pastEnd = true ↔ endPassed l := by
  unfold Lane.pastEnd endPassed headOffset frameSpan
  cases l.playhead <;> cases l.current <;> simp

/-- R142: the three classes of the next frame. -/
theorem classifyNext_continuous (t : Route) (c : RouteConfig) (f : CurrentFrame) (g : StoredFrame) :
    classifyNext t c f = .continuous g ↔ continuousNext t c f = some g := by
  unfold classifyNext continuousNext Route.entryFor dirIndex CurrentFrame.nextPt
  cases t.dir.getD ((f.seq + 1).toNat % c.depth) .invalid with
  | invalid => simp
  | inPlacement q => simp
  | valid x =>
    by_cases hq : x.seq = f.seq + 1
    · by_cases hr : x.restart = true
      · simp [hq, hr]
      · by_cases hd : (timeDist (addTicks f.pt ((f.n : Int) * 512)) x.pt).natAbs ≤ 511
        · have h : ¬ (timeDist (addTicks f.pt ((f.n : Int) * 512)) x.pt < -511 ∨
              511 < timeDist (addTicks f.pt ((f.n : Int) * 512)) x.pt) := by omega
          simp [hq, hr, hd, h]
        · have h : timeDist (addTicks f.pt ((f.n : Int) * 512)) x.pt < -511 ∨
              511 < timeDist (addTicks f.pt ((f.n : Int) * 512)) x.pt := by omega
          simp [hq, hr, hd, h]
    · have hq : ¬ x.seq = f.seq + 1#16 := hq
      simp [hq]

theorem classifyNext_discontinuous (t : Route) (c : RouteConfig) (f : CurrentFrame) :
    classifyNext t c f = .discontinuous ↔ discontinuousNext t c f := by
  unfold classifyNext discontinuousNext Route.entryFor dirIndex CurrentFrame.nextPt
  cases t.dir.getD ((f.seq + 1).toNat % c.depth) .invalid with
  | invalid => simp
  | inPlacement q => simp
  | valid x =>
    by_cases hq : x.seq = f.seq + 1
    · have h : (timeDist (addTicks f.pt ((f.n : Int) * 512)) x.pt < -511 ∨
          511 < timeDist (addTicks f.pt ((f.n : Int) * 512)) x.pt) ↔
          512 ≤ (timeDist (addTicks f.pt ((f.n : Int) * 512)) x.pt).natAbs := by omega
      by_cases hr : x.restart = true
      · simp [hq, hr]
      · by_cases hd : 512 ≤ (timeDist (addTicks f.pt ((f.n : Int) * 512)) x.pt).natAbs
        · simp [hq, hr, hd, h]
        · simp [hq, hr, hd, h]
    · have hq : ¬ x.seq = f.seq + 1#16 := hq
      simp [hq]

/-- R142: every next frame is of one class. -/
theorem classifyNext_absent (t : Route) (c : RouteConfig) (f : CurrentFrame) :
    classifyNext t c f = .absent ↔ continuousNext t c f = none ∧ ¬ discontinuousNext t c f := by
  rw [← classifyNext_discontinuous]
  cases h : classifyNext t c f with
  | continuous g => simp [(classifyNext_continuous t c f g).mp h]
  | discontinuous => simp
  | absent =>
    cases hc : continuousNext t c f with
    | none => simp
    | some g => rw [(classifyNext_continuous t c f g).mpr hc] at h; cases h

/-- R162: a staged change at a frame entry changes the lane alone, as its staged part says. -/
theorem landAtEntry_eq {i : LaneId} {r : RouteId} (hr : (s.lane i).route = some r) :
    s.landAtEntry i = s.setLane i (stagedLanded r s (s.lane i)) := by
  have keep : s.setLane i (s.lane i) = s := by
    simp only [State.setLane, State.lane]
    have : s.lanes.set i.val s.lanes[i] i.isLt = s.lanes := by simp
    rw [this]
  unfold State.landAtEntry stagedLanded
  cases hs : (s.lane i).state with
  | play =>
    cases hv : (s.lane i).staged with
    | none => exact keep.symm
    | some v =>
      cases hq : v.route with
      | none => simp [hq, State.modLane, applySettings_eq]
      | some q =>
        have hne : (s.lane i).route ≠ some q ↔ q ≠ r := by rw [hr]; simp [eq_comm]
        have ht : (s.route q).taking = true ↔ (s.route q).state = .armed ∨ (s.route q).state = .live := by
          unfold Route.taking
          cases (s.route q).state <;> decide
        simp only [hq, hne, ht]
        by_cases h : q ≠ r ∧ ((s.route q).state = .armed ∨ (s.route q).state = .live)
        · simp [h, State.modLane, applySettings_eq, rampDown_eq, rampingDown, withSettings]
        · simp [h, State.modLane, applySettings_eq]
  | stop => exact keep.symm
  | wait => exact keep.symm
  | prime => exact keep.symm
  | rampdown => exact keep.symm

/-! ### What a lane hands on -/

/-- R147, R150, R154: the interpolated pair is shaped by the lane's settings and its current frame's kind. -/
theorem handedOn_eq {l : Lane} {f : CurrentFrame} (h : l.current = some f) (pair : Int × Int) :
    handedOn l f pair = shapePair l.shaping pair.1 pair.2 := by
  simp [handedOn, Lane.shaping, Lane.depth, h]

/-- R149, R153: the page of a sample of the current frame. -/
theorem frameSample_page (c : RouteConfig) (l : Lane) (f : CurrentFrame) (j : Nat) :
    (s.frameSample c l f j).page = samplePage c l f j := by
  cases hk : f.kind <;> cases hr : l.repeatSrc <;>
    simp [State.frameSample, State.storedSample, samplePage, hk, hr, entryPage, dirIndex, Config.pageSamples]

end Sys2Proof.Machine
end

