-- ==== Sys2Proof/Laws/Receive.lean ====
section
/-! SUPPORT. What a word's arrival can change: the receiver's state and queue, and the condition set; the queue never grows past
its four entries. What the dispatcher's checks and lookup say of a frame, and a ROUTE-DISARM to one at its hand-off. And the
bounds of the shared arithmetic. -/

namespace Sys2Proof.Machine

variable {s : State}

/-! ### Arithmetic -/

theorem clampInt_mem (lo hi x : Int) (h : lo ≤ hi) : lo ≤ clampInt lo hi x ∧ clampInt lo hi x ≤ hi := by
  unfold clampInt; split <;> [skip; split] <;> omega

theorem clampInt_of_mem (lo hi x : Int) (h1 : lo ≤ x) (h2 : x ≤ hi) : clampInt lo hi x = x := by
  unfold clampInt; split <;> [skip; split] <;> omega

theorem clampNat_mem (lo hi x : Nat) (h : lo ≤ hi) : lo ≤ clampNat lo hi x ∧ clampNat lo hi x ≤ hi := by
  unfold clampNat; split <;> [skip; split] <;> omega

theorem countUp_le (n : Nat) : countUp n ≤ 65535 := by unfold countUp; split <;> omega

theorem beBytes_length : ∀ k v : Nat, (beBytes k v).length = k
  | 0, _ => rfl
  | k + 1, v => by simp [beBytes, beBytes_length k v]

/-- R40, R71: the trim an integrator gives lies in a map's range. -/
theorem trimOf_mem (i : Int) : -8192 ≤ trimOf i ∧ trimOf i ≤ 8192 := clampInt_mem _ _ _ (by decide)

/-! ### Conditions -/

/-- R192: raising a condition makes no other absent. -/
theorem raise_keeps (c : Condition) : s.cond.present &&& ~~~ (s.raise c).cond.present = 0 := by
  simp only [State.raise]
  generalize s.cond.present = x
  generalize c.mask = m
  ext k
  simp only [BitVec.getElem_and, BitVec.getElem_not, BitVec.getElem_or]
  cases x[k] <;> simp

/-! ### The receiver -/

/-- R6: an SOF claims an entry or raises a condition; nothing else changes. -/
theorem claimEntry_frame : ∃ rx cond, s.claimEntry = { s with rx := rx, cond := cond } := by
  unfold State.claimEntry
  split
  · exact ⟨_, s.cond, rfl⟩
  · exact ⟨s.rx, _, rfl⟩

theorem claimEntry_length (h : s.rx.ingress.length ≤ 4) : (s.claimEntry).rx.ingress.length ≤ 4 := by
  unfold State.claimEntry
  split
  · rename_i h'; simp only [Config.ingressEntries] at h'; simp; omega
  · exact h

/-- R1 to R7: a word's arrival changes the receiver and the condition set, and nothing else. -/
theorem receiveWord_frame (w : LinkWord) : ∃ rx cond, s.receiveWord w = { s with rx := rx, cond := cond } := by
  have byte : ∀ (u : State) (b : Byte) (bad : Bool), ∃ rx cond, u.receiveByte b bad = { u with rx := rx, cond := cond } := by
    intro u b bad
    unfold State.receiveByte
    split
    · split
      · split
        · exact ⟨_, _, rfl⟩
        · exact ⟨_, u.cond, rfl⟩
      · exact ⟨u.rx, u.cond, rfl⟩
    · exact ⟨u.rx, u.cond, rfl⟩
  unfold State.receiveWord
  split
  · split
    · exact byte s _ _
    · exact ⟨s.rx, s.cond, rfl⟩
    · unfold State.receiveSof
      split
      · obtain ⟨rx, cond, h⟩ := claimEntry_frame (s := (s.raise .frameAborted).abandonReception)
        exact ⟨rx, cond, h⟩
      · exact claimEntry_frame
    · unfold State.receiveEof
      split
      · exact ⟨_, s.cond, rfl⟩
      · exact ⟨s.rx, s.cond, rfl⟩
    · unfold State.receiveAbt
      split
      · exact ⟨_, _, rfl⟩
      · exact ⟨s.rx, s.cond, rfl⟩
    · unfold State.receiveBadCode
      dsimp only
      split
      · exact ⟨_, _, rfl⟩
      · exact ⟨s.rx, _, rfl⟩
  · obtain ⟨rx, cond, h⟩ := byte (s.raise .linkParity) (wordByte w) true
    exact ⟨rx, cond, h⟩

/-! ### The dispatcher -/

/-- R28: a frame that passes steps 1 to 6 and is the route unit's. -/
theorem isRouteUnits_iff (e : IngressEntry) :
    s.isRouteUnits e = true ↔ Safety.Passes e s ∧ frameKindByte e.bytes = 1 := by
  simp only [State.isRouteUnits, Bool.and_eq_true, Bool.or_eq_true, decide_eq_true_eq, beq_iff_eq, Bool.not_eq_true']
  exact ⟨fun h => ⟨⟨h.1.1.1.1, h.1.1.1.2, h.1.1.2, h.2⟩, h.1.2⟩,
    fun h => ⟨⟨⟨⟨h.1.header, h.1.addressed⟩, h.1.undamaged⟩, h.2⟩, h.1.body⟩⟩

/-- R29: the route that a lookup gives holds the stream, in a state asked for. -/
theorem routeHolding_some {ok : Route → Bool} {stream : BitVec 16} {r : RouteId} {c : RouteConfig}
    (h : s.routeHolding ok stream = some (r, c)) : (s.route r).config = some c ∧ ok (s.route r) = true ∧ c.stream = stream := by
  obtain ⟨q, -, hq⟩ := List.exists_of_findSome?_eq_some h
  cases hc : (s.route q).config with
  | none => simp [hc] at hq
  | some k =>
    simp only [hc, Option.ite_none_right_eq_some, Bool.and_eq_true, beq_iff_eq, Option.some.injEq, Prod.mk.injEq] at hq
    obtain ⟨⟨hok, hs⟩, rfl, rfl⟩ := hq
    exact ⟨hc, hok, hs⟩

/-- R104: a ROUTE-DISARM leaves the receiver alone, or marks the frame at its hand-off to the route. -/
theorem markHandOff_cases (r : RouteId) :
    s.markHandOff r = s ∨ ∃ e rest c, s.rx.hand = none ∧ s.rx.ingress = e :: rest ∧ e.phase = .complete ∧
      Safety.Passes e s ∧ frameKindByte e.bytes = 1 ∧ s.routeHolding Route.taking (audioStream e.bytes) = some (r, c) ∧
      s.markHandOff r = { s with rx := { s.rx with ingress := { e with disarmed := true } :: rest } } := by
  cases hh : s.rx.hand with
  | some o => exact .inl (by simp [State.markHandOff, hh])
  | none =>
    cases hi : s.rx.ingress with
    | nil => exact .inl (by simp [State.markHandOff, hh, hi])
    | cons e rest =>
      by_cases hp : e.phase = .complete ∧ s.isRouteUnits e
          ∧ (s.routeHolding Route.taking (audioStream e.bytes)).map (·.1) = some r
      · obtain ⟨x, hx, hr⟩ := Option.map_eq_some_iff.mp hp.2.2
        have hu := (isRouteUnits_iff e).mp hp.2.1
        refine .inr ⟨e, rest, x.2, rfl, rfl, hp.1, hu.1, hu.2, ?_, ?_⟩
        · rw [hx, ← hr]
        · simp only [State.markHandOff, hh, hi, if_pos hp]
      · exact .inl (by simp only [State.markHandOff, hh, hi, if_neg hp])

end Sys2Proof.Machine
end

