-- ==== Sys2Proof/Tests/Slice0.lean ====
section
/-! SUPPORT. Tests. First, each well-formedness check refuses an ill-formed command. Then one command on one small state, its
expected result taken from the spec's worked cases, or worked by hand from the rule named. Last, for every statement with
hypotheses, a state and operands that meet them all, clause by clause (`witness_…`). -/

namespace Sys2Proof.Tests

open Sys2Proof Sys2Proof.Machine Sys2Proof.Safety

-- one theorem after another: each small evaluation would otherwise hold a thread of its own
set_option Elab.async false

/-! ### Well-formedness -/

/-- R1, R19: EOF with good parity, 0x15A, is no data byte. -/
theorem test_wellFormed_refuses_control_word : (Instr.dataByteArrival 0x15A).wellFormed = false := by decide
/-- R19: SOF is no bad code. -/
theorem test_wellFormed_refuses_known_code : (Instr.badCodeArrival false 0xA5).wellFormed = false := by decide
/-- R34: 513 is no output instant. -/
theorem test_wellFormed_refuses_instant : (Instr.outputInstant 513 false false false).wellFormed = false := by decide
/-- R52: at 2^15 no tick bit from 16 to 27 rises. -/
theorem test_wellFormed_refuses_tick : (Instr.tickDue 32768 []).wellFormed = false := by decide
theorem test_wellFormed_accepts : (Instr.dataByteArrival 0x35A).wellFormed && (Instr.dataByteArrival 0x000).wellFormed
    && (Instr.badCodeArrival true 0x00).wellFormed && (Instr.outputInstant 1024 true false true).wellFormed
    && (Instr.tickDue 65536 [2]).wellFormed && (Instr.tickDue 134217728 []).wellFormed = true := by decide

/-! ### Small states -/

/-- The state a command leads to. -/
def run (c : Instr) (s : State) : State :=
  match exec c s with
  | .next t => t
  | .fault f => nomatch f
  | .refused _ => s

/-- Spec/04 section 4.7 and spec/05 section 5.7: the settings of the worked case. -/
def config : SlotConfig :=
  { leader := 2, mode := .once, tickBit := 20, timeout := 1048576, filterN := 2, gate := 1000, response := 2
    window := 1600, lockCount := 3, unlockCount := 4, holdoverEnter := 4, holdoverLimit := 32 }

def mapOf (al ag : Time) (trim : Int) : TimelineMap := { al := al, ag := ag, trim := trim }

/-- Slot 0 of the worked case. -/
def follower : GroupSlot :=
  { GroupSlot.unused with
    tag := 7, role := some .follower, config := some config, state := .track, integrator := 768000
    map := some (mapOf 1000000000 5000000000 3000), seqCounter := 41
    record := some (.outstanding 40 1000100000 1001148576)
    history := [3500, 3400, 3600, 3350, 3450, 3700, 3380, 3420] }

/-- The slot with its filter block complete, the fourth sample just in. -/
def blockSlot : GroupSlot :=
  { follower with record := none, errSum := 11520, pathSum := 13420, accepted := 4, rejected := 2, blockDone := some 1002000000 }

/-- Spec/03 section 3.4: the leader map of the examples. -/
def leader : GroupSlot :=
  { GroupSlot.unused with
    tag := 7, role := some .leader, config := some config, state := .leading, map := some (mapOf 0 5000000 0) }

def withSlot (g : GroupSlot) : State := State.reset.setSlot 0 g

/-- A SINK route on slot 0, D = 8, one page an entry, pages from 0. -/
def sinkConfig : RouteConfig :=
  { stream := 0x2201, slot := 0, mode := .sink, depth := 8, slotPages := 1, firstPage := 0, concealMode := .repeat
    concealLimit := 3, lead := none }
def sourceConfig : RouteConfig := { sinkConfig with mode := .source, lead := some 65536 }

/-- A LIVE route with a release point and the VALID frames given at their indexes. -/
def liveRoute (c : RouteConfig) (rp : Seq) (frames : List StoredFrame) : Route :=
  { Route.unused with
    state := .live, config := some c, release := some rp
    nextSeq := if c.mode = .source then some 0 else none
    dir := frames.foldl (fun d f => d.set (f.seq.toNat % c.depth) (.valid f)) (List.replicate c.depth .invalid) }
def armedRoute (c : RouteConfig) : Route := { liveRoute c 0 [] with state := .armed, release := none }

def withRoute (t : Route) (s : State) : State :=
  { s.setRoute 2 t with
    store := { s.store with pages := List.replicate 8 (some 2) ++ List.replicate 1016 none } }

/-- A COMPLETE frame at the head of the ingress queue. -/
def entryOf (stamp : Time) (bytes : List Byte) : IngressEntry :=
  { phase := .complete, stamp := stamp, bytes := bytes, parityMark := false }
def withEntry (e : IngressEntry) (s : State) : State := { s with rx := { s.rx with ingress := [e] } }

/-- A mono 16-bit AUDIO frame of two samples, with PT, from part 6. -/
def audioFrame (seq : Nat) (pt : Nat) : List Byte :=
  [1, 15, 6, 0x22, 0x01] ++ beBytes 2 seq ++ [1, 1] ++ beBytes 6 pt ++ [0x12, 0x34, 0xFF, 0xFF]
/-- The same without PT, as a source sends it. -/
def rawFrame : List Byte := [1, 15, 6, 0x22, 0x01, 0, 77, 0, 1, 0x12, 0x34, 0xFF, 0xFF]

/-- RETURN 40 of the worked case: from part 2 to part 0, tag 7, t1, t2, t3. -/
def returnFrame : List Byte := [3, 0, 2, 7, 40] ++ beBytes 6 1000100000 ++ beBytes 6 5000103100 ++ beBytes 6 5000106100
/-- A SOUNDING from part 4 with sequence 9 and t1 = 258. -/
def soundingFrame : List Byte := [2, 0, 4, 7, 9] ++ beBytes 6 258

/-- An addressed REQUEST frame in hand. -/
def frameInHand (dest : Byte) : MgmtFrame := { addressed := dest != 15, bytes := [4, dest, 12, 1], copied := true }

/-- The engine executing a list of items of a frame to `dest`. -/
def engineOn (dest : Byte) (items : List Item) (s : State) : State :=
  { s with mgmt := { queue := [frameInHand dest], phase := .running, todo := items, results := [] } }

/-- The engine executing one item of an addressed frame. -/
def asked (q : Request) (ops : List Byte) (s : State) : State := engineOn 0 [{ code := q.code, operands := ops }] s

/-- The reply that an executed item leaves. -/
def reply (s : State) : List Byte := s.tx.rep.headD []

/-- A lane bound to route 2. -/
def laneOn (st : LaneState) : Lane := { Lane.afterReset with state := st, route := some 2 }
def currentOf (seq : Seq) (pt : Time) : CurrentFrame := { seq := seq, pt := pt, n := 240, kind := .present }
/-- A lane playing with its playhead at a group time. -/
def playing (head : Time) : Lane :=
  { laneOn .play with playhead := some (timeToHead head), current := some (currentOf 502 5002145760) }

/-- GROUP-SET operands of the worked case of spec/11 section 11.5. -/
def groupSetOps (slot tag role mode : Byte) : List Byte :=
  [slot, tag, role, 5, mode, 30, 0, 0x10, 0, 0, 0, 0x07, 0xD0, 2, 0x06, 0x40, 3, 4, 4, 32]
/-- ROUTE-ARM operands: stream 0x5502 on slot 0, depth 16, 8 pages, REPEAT, limit 3, lead 65,536. -/
def routeArmOps (r slot mode : Byte) : List Byte := [r, 0x55, 0x02, slot, mode, 16, 8, 1, 3, 0, 1, 0, 0]
/-- LANE-BIND operands: the carried byte 2 brings the gain 20,000. -/
def laneBindOps (lane r : Byte) : List Byte := [lane, r, 2, 0, 0x4E, 0x20, 0, 0, 0]

/-! ### One step of each command -/

/-- R9, R51: reset clears a slot; R127: the store memory is kept. -/
theorem test_powerOnReset : (run .powerOnReset
    { withSlot follower with store := Store.afterReset [(5, 3)] }).slot 0 = GroupSlot.unused ∧
    (run .powerOnReset { withSlot follower with store := Store.afterReset [(5, 3)] }).store.mem = [(5, 3)] := by decide

/-- R177: strap value 15 is taken as link address 14. -/
theorem test_rstnRelease : (run (.rstnRelease 15 true) (run .powerOnReset State.reset)).pins =
    { inReset := false, txhold := false, straps := 15, aenpol := true, linkAddress := 14 } := by decide

/-- R5, R6: the entry carries the LMC value of its SOF. -/
theorem test_sofArrival : (run (.sofArrival 5 false) State.reset).rx =
    { inside := true, ingress := [{ phase := .receiving, stamp := 5, bytes := [], parityMark := false }], hand := none } := by
  decide +kernel

/-- R6: the fifth frame is dropped. -/
theorem test_sofArrival_overrun : (run (.sofArrival 9 false)
    { State.reset with rx := { State.reset.rx with ingress := List.replicate 4 (entryOf 1 []) } }).cond.present = 16 := by
  decide +kernel

/-- R1, R3: data word 0x0A5, of good parity bit for bit (four ones and the parity bit, 0x2A5), and its even twin. -/
theorem test_dataByteArrival : (run (.dataByteArrival 0x2A5) (run (.sofArrival 5 false) State.reset)).rx.ingress =
    [{ phase := .receiving, stamp := 5, bytes := [0xA5], parityMark := false }] := by decide +kernel
theorem test_dataByteArrival_parity : (run (.dataByteArrival 0x0A5) (run (.sofArrival 5 false) State.reset)).rx.ingress =
    [{ phase := .receiving, stamp := 5, bytes := [0xA5], parityMark := true }] ∧
    (run (.dataByteArrival 0x0A5) State.reset).cond.present = 1 := by decide +kernel

/-- R3: EOF completes the frame, of no bytes here. -/
theorem test_eofArrival : (run (.eofArrival false) (run (.sofArrival 5 false) State.reset)).rx =
    { inside := false, ingress := [entryOf 5 []], hand := none } := by decide +kernel

/-- R3, R7: ABT abandons the frame with FRAME_ABORTED, condition 2. -/
theorem test_abtArrival : (run (.abtArrival false) (run (.sofArrival 5 false) State.reset)).rx.ingress = [] ∧
    (run (.abtArrival false) (run (.sofArrival 5 false) State.reset)).cond.present = 4 := by decide +kernel

/-- R2, R19: a bad code outside a frame raises LINK_CODE, condition 1. -/
theorem test_badCodeArrival : (run (.badCodeArrival false 0) State.reset).cond.present = 2 := by decide +kernel

/-- R2: IDLE of good parity does nothing. -/
theorem test_idleArrival : run (.idleArrival false) State.reset = State.reset := by decide +kernel

/-- Spec/04 section 4.7: the first sounding's return joins the history and the filter. -/
theorem test_dispatch_return :
    let g := (run (.dispatch 1000106400) (withEntry (entryOf 1000106300 returnFrame) (withSlot follower))).slot 0
    g.record = none ∧ g.history = [3400, 3600, 3350, 3450, 3700, 3380, 3420, 3300] ∧ g.errSum = 2864 ∧ g.pathSum = 3300
      ∧ g.accepted = 1 := by decide +kernel

/-- Spec/06 section 6.4, frame F1: PT 25,065,536 with RESTART, sequence 0, release point 65,532 at D = 16. -/
theorem test_dispatch_stamped :
    let c := { sourceConfig with depth := 16, slotPages := 8 }
    let t := run (.dispatch 20000100) (withEntry (entryOf 20000000 rawFrame) (withRoute (armedRoute c) (withSlot leader)))
    (t.route 2).lastStamp = some (25065536, 2) ∧ (t.route 2).nextSeq = some 1 ∧ (t.route 2).release = some 65532
      ∧ (t.tx.src.map (fun b => b.take 15)) = [[1, 15, 0, 0x22, 0x01, 0, 0, 3, 1, 0, 0, 1, 0x7E, 0x78, 0x40]] := by
  decide +kernel

/-- Spec/04 section 4.7, the result, and spec/05 section 5.7, its discipline. -/
theorem test_filterBlockComplete_result : ((run (.filterBlockComplete 0) (withSlot blockSlot)).slot 0).lastResult =
    some { e := 23040, p := 3355, n := 4, rejected := 2 } := by decide
theorem test_filterBlockComplete_discipline :
    let g := (run (.filterBlockComplete 0) (withSlot blockSlot)).slot 0
    g.integrator = 814080 ∧ g.map = some (mapOf 1002000000 5002001077 3180) ∧ g.outsideRun = 1 ∧ g.insideRun = 0
      ∧ g.state = .track := by decide

/-- R31: the copy's end hands the frame over whole and releases its entry. -/
theorem test_mgmtCopyEnd :
    let s := withEntry (entryOf 5 [4, 0, 12, 1, 1, 0]) State.reset
    let t := run .mgmtCopyEnd (run (.dispatch 9) s)
    t.rx.ingress = [] ∧ t.mgmt.queue = [{ addressed := true, bytes := [4, 0, 12, 1, 1, 0], copied := true }] := by
  decide +kernel

/-- Spec/07 section 7.4: frame 101 of the example, stored; R109: 16-bit values times 256, mono in both. -/
def placed : State :=
  run .storeBurstEnd
    (run (.dispatch 9) (withEntry (entryOf 5 (audioFrame 101 9000)) (withRoute (liveRoute sinkConfig 98 []) State.reset)))
theorem test_storeBurstEnd : readStored placed.store.mem (5 * 256) = { left := 0x123400, right := 0x123400 } ∧
    readStored placed.store.mem (5 * 256 + 8) = { left := 0xFFFF00, right := 0xFFFF00 } := by decide +kernel
theorem test_placementComplete : ((run .placementComplete placed).route 2).counters.accepted = 1 ∧
    ((run .placementComplete placed).route 2).dir[5]? = some (.valid { seq := 101, pt := 9000, n := 2, restart := false }) := by
  decide +kernel

/-- Spec/04 section 4.7: sounding 40 departs at 1,000,100,000 with deadline 1,001,148,576. -/
def soundingQueued : State :=
  { withSlot { follower with record := some (.queued 40) } with
    tx := { State.reset.tx with snd := [{ slot := 0, seq := 40, bytes := [2, 2, 0, 7, 40, 0, 0, 0, 0, 0, 0] }] } }
theorem test_departureStart : ((run (.departureStart 1000100000) soundingQueued).slot 0).record =
    some (.outstanding 40 1000100000 1001148576) := by decide +kernel

/-- R10, R19: the bytes 0x02 and 0x03 go out as 0x002 and 0x203, then EOF 0x15A. -/
theorem test_departureEnd : (run .departureEnd
    { State.reset with tx := { State.reset.tx with departing := some { cls := .source, bytes := [2, 3] } } }).tx.words =
    [0x002, 0x203, 0x15A] := by decide +kernel

/-- R14. -/
theorem test_txholdAssert : (run .txholdAssert State.reset).pins.txhold = true := by decide
theorem test_txholdRelease : (run .txholdRelease (run .txholdAssert State.reset)).pins.txhold = false := by decide

/-- R10, R14, R18: no words in reset, IDLE 0x13C from its release and while held, and a frame's words after its SOF. -/
theorem test_txLine : (run .powerOnReset State.reset).txLine = .silent ∧ State.reset.txLine = .idle 0x13C ∧
    (run .txholdAssert State.reset).txLine = .idle 0x13C ∧
    ({ State.reset with tx := { State.reset.tx with departing := some { cls := .source, bytes := [2, 3] } } } : State).txLine =
      .frame [0x002, 0x203, 0x15A] := by decide +kernel

/-- Spec/08 section 8.3: the start test at 1,002,099,712 takes frame 502 and moves the release point from 500. -/
def startFrames : List StoredFrame :=
  [500, 501, 502, 503, 504].map (fun k =>
    { seq := BitVec.ofNat 16 k, pt := BitVec.ofNat 48 (5001900000 + (k - 500) * 122880), n := 240, restart := false })
def lockedSlot : GroupSlot :=
  { follower with
    record := none, state := .locked, map := some (mapOf 1002000000 5002001077 3180), integrator := 814080, history := [] }
def startState (l : Lane) : State :=
  (withRoute (liveRoute { sinkConfig with depth := 16, slotPages := 8 } 500 startFrames) (withSlot lockedSlot)).setLane 1 l
theorem test_outputInstant_start :
    let t := run (.outputInstant 1002099712 false false false) (startState (laneOn .wait))
    (t.lane 1).state = .prime ∧ (t.lane 1).current = some (currentOf 502 5002145760) ∧ (t.route 2).release = some 502 := by
  decide +kernel

/-- The same example, k = 283: the lane enters PLAY at T = 5,002,145,872 and advances by 33,560,792 units. -/
theorem test_outputInstant_play :
    let t := run (.outputInstant 1002144768 false false false)
      (startState { laneOn .prime with current := some (currentOf 502 5002145760) })
    (t.lane 1).state = .play ∧ (t.lane 1).playhead = some (timeToHead 5002145872 + 33560792) := by decide +kernel

/-- R139: a ramp-in past level 64 is absent. -/
theorem test_rampInEnd :
    ((run (.rampInEnd 0) (State.reset.setLane 0 { playing 9 with ramp := some (.up 65) })).lane 0).ramp = none := by
  decide

/-- R141, R173: the lane enters WAIT and its hold expires 2^25 ticks on. -/
def rampedDown : State :=
  (withRoute (liveRoute sinkConfig 98 []) State.reset).setLane 0
    { playing 9 with state := .rampdown, ramp := some (.down 65 64 .wait) }
theorem test_rampEnd : (run (.rampEnd 0) rampedDown).lane 0 = { laneOn .wait with holdTimer := some 33554432 } := by
  decide

/-- R173. -/
theorem test_ampHoldExpiry : ((run (.ampHoldExpiry 77 3)
    (State.reset.setLane 3 { Lane.afterReset with holdTimer := some 77 })).lane 3).holdTimer = none := by decide +kernel

/-- R171, R174: AENPOL low drives a deasserted enable low, AENPOL high drives it high; in reset no AEN pin is driven. -/
theorem test_aenPin : State.reset.aenPin 0 = some false ∧
    (run (.rstnRelease 0 true) (run .powerOnReset State.reset)).aenPin 0 = some true ∧
    (run .powerOnReset State.reset).aenPin 0 = none := by decide

/-- R170: at 260 counts into a frame the right slot's first bit, the most significant, with SCLK high and SFRM high. -/
theorem test_portLines :
    let s : State := { State.reset with
      time := { State.reset.time with lmc := 772 }
      out := { State.reset.out with frame := Vector.replicate 4 { left := 0, right := 0x800000 } } }
    s.spLine 3 = true ∧ s.sclk = true ∧ s.sfrm = true ∧
      ({ s with time := { s.time with lmc := 776 } } : State).spLine 3 = false := by decide

/-- R175, R176: SNS1 accepted active under MUTE_ALL sets its latch and raises SENSE1, condition 25. -/
theorem test_senseAccept :
    let t := run (.senseAccept 1)
      (State.reset.setInput 1 { pin := true, accepted := false, run := 48, action := .muteAll, latch := false })
    t.input 1 = { pin := true, accepted := true, run := 0, action := .muteAll, latch := true } ∧ t.has .sense1 = true := by
  decide

/-- R38: PENDING with 4,000 edges becomes REFIN; REFIN with 4,193 becomes PENDING with REFIN_LOST, condition 23. -/
def timebaseAt (st : TimebaseState) : State :=
  { State.reset with time := { Timebase.afterReset with state := st, selectRefin := true } }
theorem test_monitorWindowEnd : (run (.monitorWindowEnd 4000) (timebaseAt .pending)).time.state = .refin ∧
    (run (.monitorWindowEnd 4193) (timebaseAt .refin)).time.state = .pending ∧
    (run (.monitorWindowEnd 4193) (timebaseAt .refin)).has .refinLost = true := by decide +kernel

/-- R52, R55: bit 20 rises at 2^20: sounding 41 is queued. -/
theorem test_tickDue : ((run (.tickDue 1048576 [])
    (withSlot { follower with record := none, config := some { config with mode := .tick } })).slot 0).record =
    some (.queued 41) := by decide +kernel

/-- R53, R55: an armed STREAM due event offers a SOUNDING to the leader. -/
theorem test_streamDue : (run (.streamDue 90 0) (withSlot
    { follower with record := none, streamDue := some 90, config := some { config with mode := .stream } })).tx.snd =
    [{ slot := 0, seq := 41, bytes := [2, 2, 0, 7, 41, 0, 0, 0, 0, 0, 0] }] := by decide +kernel

/-- Spec/05 section 5.8: the fourth lost sounding, and the thirty-second. -/
theorem test_soundingTimeout : ((run (.soundingTimeout 1001148576 0) (withSlot { follower with lost := 3 })).slot 0).lost = 4 ∧
    ((run (.soundingTimeout 1001148576 0) (withSlot { follower with lost := 3 })).slot 0).lossDue = some .holdover := by
  decide +kernel
theorem test_holdoverEntered :
    let t := run (.holdoverEntered 0) (withSlot { follower with state := .locked, lost := 4, lossDue := some .holdover })
    (t.slot 0).state = .holdover ∧ (t.slot 0).map.isSome = true ∧ t.cond.present = 0x10000 := by decide
theorem test_leaderLost :
    let t := run (.leaderLost 0) (withSlot { follower with state := .holdover, lost := 32, lossDue := some .leaderLost })
    (t.slot 0).state = .acquire ∧ (t.slot 0).map = none ∧ (t.slot 0).integrator = 768000 ∧ t.cond.present = 0x20000 := by
  decide

/-- R178: the engine takes an addressed frame once the REPLY class is empty. -/
theorem test_mgmtFrameBegin : (run .mgmtFrameBegin { State.reset with mgmt := { Mgmt.afterReset with
    queue := [{ addressed := true, bytes := [4, 0, 12, 1, 1, 0], copied := true }] } }).mgmt.todo =
    [{ code := 1, operands := [] }] := by decide +kernel

/-- R180, R24: code 0x55 names no request. -/
theorem test_unknownRequest : reply (run .unknownRequest (engineOn 0 [{ code := 0x55, operands := [] }] State.reset)) =
    [5, 12, 0, 1, 0x55, 5, 0, 0] := by decide +kernel

/-- R184, R24. -/
theorem test_identify : reply (run .identify (asked .identify [] State.reset)) =
    [5, 12, 0, 1, 1, 0, 0, 8, 0x0E, 0x52, 0x04, 0x40, 1, 0, 0, 0] := by decide +kernel

/-- R185: 207 bytes of data; slot 0 begins with tag 7, FOLLOWER, TRACK, map present. -/
theorem test_status : (reply (run .status (asked .status [] (withSlot follower)))).length = 8 + 207 ∧
    ((reply (run .status (asked .status [] (withSlot follower)))).drop 18).take 4 = [7, 1, 3, 1] := by decide +kernel

/-- R186, R187: clearing bit 0 leaves bit 4. -/
theorem test_conditionsClear : (run .conditionsClear (asked .conditionsClear [0, 0, 0, 1]
    { State.reset with cond := { present := 0x11, mask := 0 } })).cond = { present := 0x10, mask := 0 } := by decide +kernel
theorem test_conditionsMask : (run .conditionsMask (asked .conditionsMask [0xFF, 0, 0, 2] State.reset)).cond =
    { present := 0, mask := 0x03000002 } := by decide +kernel

/-- R37, R188: any source but 0 is REFIN. -/
theorem test_timebaseSelect : (run .timebaseSelect (asked .timebaseSelect [7] State.reset)).time.state = .pending := by
  decide +kernel

/-- Spec/11 section 11.5, item 1: the tick bit is clamped to 27, filter n 0 taken as 1. -/
theorem test_groupSet_creates :
    let g := (run (.groupSet 1000) (asked .groupSet (groupSetOps 1 9 1 3) State.reset)).slot 1
    g.tag = 9 ∧ g.state = .acquire ∧ g.config.map (fun c => (c.tickBit, c.filterN, c.timeout)) = some (27, 1, 1048576) := by
  decide +kernel
/-- Spec/03 section 3.5, the handover: GROUP-SET to B at 1,003,000,000. -/
theorem test_groupSet_handover :
    let g := (run (.groupSet 1003000000) (asked .groupSet (groupSetOps 0 7 0 1) (withSlot follower))).slot 0
    g.state = .leading ∧ g.map = some (mapOf 1003000000 5003000536 0) ∧ g.record = none ∧ g.integrator = 0 := by
  decide +kernel

/-- R50. -/
theorem test_groupClear : (run .groupClear (asked .groupClear [0] (withSlot follower))).slot 0 = GroupSlot.unused := by
  decide +kernel

/-- Spec/04 section 4.7: GROUP-SOUND makes record 40, QUEUED, and the counter 41. -/
theorem test_groupSound :
    let g := (run .groupSound (asked .groupSound [0] (withSlot { follower with record := none, seqCounter := 40 }))).slot 0
    g.record = some (.queued 40) ∧ g.seqCounter = 41 := by decide +kernel

/-- R69: the last result of the worked case, ready flag set. -/
theorem test_groupMeasure : reply (run .groupMeasure (asked .groupMeasure [0] (withSlot
    { follower with lastResult := some { e := 23040, p := 3355, n := 4, rejected := 2 }, ready := true }))) =
    [5, 12, 0, 1, 0x13, 0, 0, 16, 1, 1, 0, 0, 0x5A, 0, 0, 0, 0, 0, 0x0D, 0x1B, 0, 4, 0, 2] := by decide +kernel

/-- Spec/11 section 11.5, item 2: SOURCE on a slot that does not lead is refused; on a leader it is armed. -/
theorem test_routeArm_refused : reply (run .routeArm (asked .routeArm (routeArmOps 4 0 1) (withSlot follower))) =
    [5, 12, 0, 1, 0x20, 1, 0, 0] := by decide +kernel
theorem test_routeArm : reply (run .routeArm (asked .routeArm (routeArmOps 4 0 1) (withSlot leader))) =
    [5, 12, 0, 1, 0x20, 0, 0, 9, 0, 0, 16, 8, 3, 0, 1, 0, 0] := by decide +kernel

/-- R102, R103: a route without lanes becomes FREE at once and gives its pages back. -/
theorem test_routeDisarm :
    let t := run (.routeDisarm 5) (asked .routeDisarm [2] (withRoute (liveRoute sinkConfig 98 []) State.reset))
    (t.route 2).state = .free ∧ t.store.pages = List.replicate 1024 none := by decide +kernel
/-- R104: a frame that has had its lookup when the disarm takes effect is discarded without a count and without a condition; a
frame whose EOF comes after the disarm finds no route, and raises STREAM_UNKNOWN, condition 6. -/
theorem test_routeDisarm_handOff :
    let armed := asked .routeDisarm [2] (withRoute (liveRoute sinkConfig 98 []) State.reset)
    let e := entryOf 5 (audioFrame 98 9000)
    let t := run (.dispatch 9) (run (.routeDisarm 7) (withEntry e armed))
    let receiving : State := { armed with
      rx := { inside := true, ingress := [{ e with phase := .receiving }], hand := none } }
    let u := run (.dispatch 9) (run (.eofArrival false) (run (.routeDisarm 7) receiving))
    t.rx.ingress = [] ∧ t.cond.present = 0 ∧ (t.route 2).counters = RouteCounters.zero ∧ u.rx.ingress = [] ∧
      u.has .streamUnknown = true := by decide +kernel

/-- R101: counts are reported, then cleared. -/
def counted : State :=
  State.reset.setRoute 2 { Route.unused with counters := { RouteCounters.zero with accepted := 10, late := 2 } }
theorem test_routeCounts : ((reply (run .routeCounts (asked .routeCounts [2, 1] counted))).drop 8).take 6 =
    [0, 10, 0, 0, 0, 2] ∧ ((run .routeCounts (asked .routeCounts [2, 1] counted)).route 2).counters = RouteCounters.zero := by
  decide +kernel

/-- R161, R189: a lane in STOP is bound with the gain carried; in PLAY the change is staged. -/
theorem test_laneBind : (run (.laneBind 5) (asked .laneBind (laneBindOps 3 2)
    (withRoute (liveRoute sinkConfig 98 []) State.reset))).lane 3 = { laneOn .wait with gain := 20000 } := by decide +kernel
theorem test_laneBind_staged : ((run (.laneBind 5) (asked .laneBind (laneBindOps 3 2)
    ((withRoute (liveRoute sinkConfig 98 []) State.reset).setLane 3 (playing 9)))).lane 3).staged =
    some { route := some 2, plan := none, gain := some 20000, delay := none, amp := none } := by decide +kernel

/-- R182: once the staged change is absent the waiting LANE-GAIN acts. -/
def laneWaiting : State :=
  let s := asked .laneGain [3, 0x4E, 0x20] State.reset
  { s with mgmt := { s.mgmt with phase := .laneWait 3 } }
theorem test_laneWaitEnd : ((run (.laneWaitEnd 5) laneWaiting).lane 3).gain = 20000 := by decide +kernel

/-- R164: from PLAY, a ramp-down with destination STOP. -/
theorem test_laneUnbind :
    let l := (run (.laneUnbind 5) (asked .laneUnbind [3] (State.reset.setLane 3 (playing 9)))).lane 3
    l.state = .rampdown ∧ l.ramp = some (.down 1 1 .stop) := by decide +kernel
/-- R115, R164: two lanes in PRIME on frames 100 and 103; the first is unbound, and the release point moves to 103, the VALID
frame 101 becoming INVALID. -/
def twoPrimed : State :=
  let primed : Seq → Lane := fun q => { laneOn .prime with current := some (currentOf q 9000) }
  ((withRoute (liveRoute sinkConfig 98
    [{ seq := 101, pt := 9000, n := 2, restart := false }, { seq := 103, pt := 9100, n := 2, restart := false }])
    State.reset).setLane 0 (primed 100)).setLane 1 (primed 103)
theorem test_laneUnbind_release :
    let t := run (.laneUnbind 5) (asked .laneUnbind [0] twoPrimed)
    (t.route 2).release = some 103 ∧ (t.route 2).dir[5]? = some .invalid ∧
    (t.route 2).dir[7]? = some (.valid { seq := 103, pt := 9100, n := 2, restart := false }) := by decide +kernel

/-- R189. -/
theorem test_laneGain : ((run .laneGain (asked .laneGain [3, 0x4E, 0x20] State.reset)).lane 3).gain = 20000 := by decide +kernel

/-- R191: an action of 2 refuses both fields. -/
theorem test_senseAction : ((run .senseAction (asked .senseAction [1, 0] State.reset)).input 0).action = .muteAll ∧
    ((run .senseAction (asked .senseAction [1, 2] State.reset)).input 0).action = .none := by decide +kernel

/-- R125: the peek waits for its grant; granted, it reports the entry, here index 5 of the example. -/
def peeking : State :=
  run .slotPeek (asked .slotPeek [2, 5, 1] (withRoute
    (liveRoute sinkConfig 98 [{ seq := 101, pt := 9000, n := 48, restart := false }]) State.reset))
theorem test_slotPeek : peeking.mgmt.phase = .storeWait 2 5 1 := by decide +kernel
theorem test_slotPeekGrant : (reply (run .slotPeekGrant peeking)).drop 8 =
    [2, 8, 1, 0, 0, 1, 0, 98, 1, 5, 2, 0, 101, 0, 0, 0, 0, 0x23, 0x28, 0, 48, 0, 0, 5] := by decide +kernel
/-- R125: a placement whose last burst has ended is taken by the copy as its command comes after PLACEMENT_COMPLETE or before:
entry 5 VALID (2), or IN PLACEMENT (1), the completion still due. -/
theorem test_slotPeekGrant_order :
    let s : State := { peeking with
      store := { peeking.store with
        placement := some { route := 2, index := 5, frame := { seq := 101, pt := 9000, n := 2, restart := false }
                            base := 1280, data := [], written := 1, abandoned := false } } }
    let s := s.setRoute 2 { s.route 2 with dir := (s.route 2).dir.set 5 (.inPlacement 101) }
    let before := run .slotPeekGrant s
    (reply (run .slotPeekGrant (run .placementComplete s)))[18]? = some 2 ∧ (reply before)[18]? = some 1 ∧
      ((run .placementComplete before).route 2).counters.accepted = 1 := by decide +kernel

/-- R126: the first ten pages are eight of route 2 and two free. -/
theorem test_pageRuns : reply (run .pageRuns (asked .pageRuns [0, 0, 10] (withRoute (liveRoute sinkConfig 98 []) State.reset))) =
    [5, 12, 0, 1, 0x41, 0, 0, 11, 2, 0, 0, 0, 8, 2, 0, 8, 0, 2, 0xFF] := by decide +kernel

/-- R193: not last, refused; last of a broadcast frame, the part is reset at once. -/
theorem test_deviceReset_refused : reply (run .deviceReset (engineOn 0
    [{ code := 0x7F, operands := [] }, { code := 1, operands := [] }] State.reset)) =
    [5, 12, 0, 2, 0x7F, 1, 0, 0, 1, 7, 0, 0] := by decide +kernel
theorem test_deviceReset : (run .deviceReset (engineOn 15 [{ code := 0x7F, operands := [] }] (withSlot follower))).slot 0 =
    GroupSlot.unused := by decide +kernel

/-! ### Shared arithmetic -/

/-- Spec/10 section 10.1: the pair through the stages, and the limits. -/
theorem test_output_arithmetic :
    (shapePair { plan := .mix, depth := 1, gain := 16384, ramp := some (.down 10 10 .wait) } (-2817) 4000).left = 124 ∧
    shapePair { plan := .stereo, depth := 0, gain := 16384, ramp := none } (-2817) 4000 =
      { left := BitVec.ofInt 24 (-1409), right := 2000 } ∧
    (shapePair { plan := .stereo, depth := 0, gain := 49152, ramp := none } 6000000 0).left = 8388607 ∧
    (shapePair { plan := .stereo, depth := 0, gain := 49152, ramp := some (.up 32) } 6000000 0).left = 4500000 ∧
    (shapePair { plan := .stereo, depth := 0, gain := 65535, ramp := none } (-8388608) 0).left =
      BitVec.ofInt 24 (-8388608) := by decide

/-- Spec/03 section 3.4: the examples of conversion. -/
theorem test_conversion :
    (mapOf 1000000000 5000000000 3000).convert 1000100000 = 5000100017 ∧
    (mapOf 1000000000 5000000000 3000).convert 999900000 = 4999899982 ∧
    (mapOf 1000000000 5000000000 (-3000)).convert 1000100000 = 5000099982 ∧
    (mapOf 0 5000000 0).convert (-1000000) = 4000000 := by decide

/-- Spec/11 section 11.5: the frame of 52 bytes holds three items of 22, 15 and 11 bytes. -/
theorem test_request_items :
    (requestItems ([4, 3, 12, 3] ++ ([0x10, 20] ++ groupSetOps 1 9 1 3) ++ ([0x20, 13] ++ routeArmOps 4 1 1)
      ++ ([0x30, 9] ++ laneBindOps 3 4))).map (fun l => l.map (fun i => i.operands.length)) = some [20, 13, 9] := by
  decide

/-- The table gives no row bits, so no word spells a command and no word changes the queue. -/
theorem test_decodeTableWord : decodeTableWord 8 0xFF = none ∧ State.reset.withFetchWord 8 0xFF = State.reset := by
  decide +kernel

/-! ### Witnesses: the hypotheses of the statements are met -/

theorem ready {s : State} (h : s.pins.inReset = false ∧ s.quiet = true) : Ready s := ⟨h.1, h.2⟩

theorem atHead {s : State} {e : IngressEntry} {rest : List IngressEntry} (h : s.pins.inReset = false ∧ s.quiet = true)
    (h' : s.rx.hand = none ∧ s.rx.ingress = e :: rest ∧ e.phase = .complete) : AtHead e rest s :=
  ⟨ready h, h'.1, h'.2.1, h'.2.2⟩

theorem passes {s : State} {e : IngressEntry} (h : 3 ≤ e.bytes.length ∧ (frameDest e.bytes = s.pins.linkAddress ∨
    frameDest e.bytes = 15) ∧ e.parityMark = false ∧ bodyWellFormed e.bytes = true) : Passes e s := ⟨h.1, h.2.1, h.2.2.1, h.2.2.2⟩

theorem instantDue {s : State} {now : Time} (h : now.toNat % 512 = 0 ∧ now ≠ s.time.lmc) : InstantDue now s :=
  ⟨h.1, .inl h.2⟩

/-- Any request with operands of its length is executed by the engine that has it as its only item. -/
theorem executing (q : Request) (ops : List Byte) (s : State) (h : s.pins.inReset = false ∧ s.quiet = true)
    (hl : ops.length = q.operandLength) : Executing q ops [] (asked q ops s) := by
  refine ⟨⟨h.1, h.2⟩, rfl, rfl, hl, ?_⟩
  cases q <;> rfl

theorem witness_StepRunsFrontCommand : ({ State.reset with pending := [.identify, .status] } : State).pending =
    [.identify, .status] := rfl

theorem witness_IdleStepCountsOnce : State.reset.pending = [] ∧ State.reset.pins.inReset = false ∧
    (run .powerOnReset State.reset).pending = [] ∧ (run .powerOnReset State.reset).pins.inReset = true := by decide

theorem witness_ResetAndRelease : (run .powerOnReset State.reset).pins.inReset = true ∧
    (run .powerOnReset State.reset).tx.departing = none ∧ State.reset.pins.inReset = false := by decide

/-- Ingress queues of three and of four entries. -/
def heldEntries (k : Nat) : State :=
  { State.reset with rx := { State.reset.rx with ingress := List.replicate k (entryOf 1 []) } }

theorem witness_WordsReceived_outside : Ready (heldEntries 3) ∧ (heldEntries 3).rx.inside = false ∧
    (heldEntries 3).rx.ingress.length < 4 ∧ Ready (heldEntries 4) ∧ (heldEntries 4).rx.inside = false ∧
    4 ≤ (heldEntries 4).rx.ingress.length ∧ goodParity 0x2A5 = true ∧ (0x2A5 : LinkWord).getLsbD 8 = false ∧
    goodParity (controlWord false 0x00) = true ∧ Byte.isBadCode 0x00 = true :=
  ⟨ready (by decide), by decide, by decide, ready (by decide), by decide,
    by decide, by decide, by decide, by decide, by decide⟩

/-- A frame of `n` bytes in reception behind three complete ones. -/
def inReception (n : Nat) : IngressEntry :=
  { phase := .receiving, stamp := 5, bytes := List.replicate n 0, parityMark := false }
def receivingState (n : Nat) : State :=
  { State.reset with
    rx := { inside := true, ingress := List.replicate 3 (entryOf 1 []) ++ [inReception n], hand := none } }

theorem witness_WordsReceived_inside : Ready (receivingState 2047) ∧ (receivingState 2047).rx.inside = true ∧
    (receivingState 2047).rx.ingress = List.replicate 3 (entryOf 1 []) ++ [inReception 2047] ∧
    (inReception 2047).phase = .receiving ∧ (∀ x ∈ List.replicate 3 (entryOf 1 []), x.phase = .complete) ∧
    (inReception 2047).bytes.length < 2048 ∧ Ready (receivingState 2048) ∧ 2048 ≤ (inReception 2048).bytes.length ∧
    (List.replicate 3 (entryOf 1 [])).length < 4 :=
  ⟨ready (by decide), rfl, rfl, rfl, by decide, by decide +kernel, ready (by decide),
    by decide +kernel, by decide⟩

theorem witness_ParityBadWordIsData : Ready State.reset ∧ goodParity 0x0A5 = false ∧ goodParity 0x3A5 = false ∧
    State.reset.rx.inside = false ∧ Ready (receivingState 2047) ∧ (receivingState 2047).rx.inside = true ∧
    (receivingState 2047).rx.ingress = List.replicate 3 (entryOf 1 []) ++ [inReception 2047] :=
  ⟨ready (by decide), by decide, by decide, rfl, ready (by decide), rfl, rfl⟩

/-- Frames for each of the dispatcher's steps. -/
theorem witness_DispatchDiscards_length :
    AtHead (entryOf 5 [4, 0]) [] (withEntry (entryOf 5 [4, 0]) State.reset) ∧ (entryOf 5 [4, 0]).bytes.length < 3 :=
  ⟨atHead (by decide) ⟨rfl, rfl, rfl⟩, by decide⟩
theorem witness_DispatchDiscards_address :
    AtHead (entryOf 5 [4, 1, 2]) [] (withEntry (entryOf 5 [4, 1, 2]) State.reset) ∧
    3 ≤ (entryOf 5 [4, 1, 2]).bytes.length ∧ ¬ (frameDest [4, 1, 2] = State.reset.pins.linkAddress ∨ frameDest [4, 1, 2] = 15) :=
  ⟨atHead (by decide) ⟨rfl, rfl, rfl⟩, by decide, by decide⟩
def damaged (kind : Byte) : IngressEntry := { entryOf 5 [kind, 15, 2] with parityMark := true }
theorem witness_DispatchDiscards_parity :
    AtHead (damaged 3) [] (withEntry (damaged 3) State.reset) ∧ frameKindByte (damaged 3).bytes ≠ 4 ∧
    AtHead (damaged 4) [] (withEntry (damaged 4) State.reset) ∧ frameKindByte (damaged 4).bytes = 4 ∧
    frameDest (damaged 4).bytes = 15 ∧ (damaged 4).parityMark = true :=
  ⟨atHead (by decide) ⟨rfl, rfl, rfl⟩, by decide, atHead (by decide) ⟨rfl, rfl, rfl⟩, by decide, by decide,
    rfl⟩
theorem witness_DispatchDiscards_kind : ∀ k ∈ ([0, 6, 5] : List Byte),
    AtHead (entryOf 5 [k, 0, 2]) [] (withEntry (entryOf 5 [k, 0, 2]) State.reset) ∧
    frameDest (entryOf 5 [k, 0, 2]).bytes = State.reset.pins.linkAddress ∧ frameKindByte (entryOf 5 [k, 0, 2]).bytes = k.toNat :=
  fun _ _ => ⟨atHead ⟨rfl, (by decide : State.reset.quiet = true)⟩ ⟨rfl, rfl, rfl⟩, rfl, rfl⟩
theorem witness_DispatchDiscards_body :
    AtHead (entryOf 5 [1, 0, 2]) [] (withEntry (entryOf 5 [1, 0, 2]) State.reset) ∧ bodyWellFormed [1, 0, 2] = false ∧
    AtHead (entryOf 5 [4, 0, 2, 0]) [] (withEntry (entryOf 5 [4, 0, 2, 0]) State.reset) ∧ bodyWellFormed [4, 0, 2, 0] = false ∧
    frameKindByte [1, 0, 2] = 1 ∧ frameKindByte [4, 0, 2, 0] = 4 :=
  ⟨atHead (by decide) ⟨rfl, rfl, rfl⟩, by decide, atHead (by decide) ⟨rfl, rfl, rfl⟩, by decide, by decide,
    by decide⟩

/-- Bodies of each kind: AUDIO with PT, mono, 16 bits; stereo of 24 bits without; a SOUNDING, a RETURN, a REQUEST. -/
theorem witness_DispatchDiscards_lengths :
    frameKindByte (audioFrame 98 9000) = 1 ∧ bodyWellFormed (audioFrame 98 9000) = true ∧
    bodyWellFormed ([1, 15, 6, 0x22, 0x01, 0, 77, 12, 0] ++ List.replicate 6 0) = true ∧
    bodyWellFormed ([1, 15, 6, 0x22, 0x01, 0, 77, 12, 0] ++ List.replicate 7 0) = false ∧
    frameKindByte soundingFrame = 2 ∧ soundingFrame.length = 11 ∧ frameKindByte returnFrame = 3 ∧ returnFrame.length = 23 ∧
    requestItems [4, 0, 12, 2, 1, 0, 8, 1, 7] = some [{ code := 1, operands := [] }, { code := 8, operands := [7] }] := by
  decide +kernel

/-- A REQUEST with one IDENTIFY item, the queue holding one frame and two. -/
def identifyEntry : IngressEntry := entryOf 5 [4, 0, 12, 1, 1, 0]
def identifyFrame (copied : Bool) (dest : Byte) : MgmtFrame :=
  { addressed := dest != 15, bytes := [4, dest, 12, 1, 1, 0], copied := copied }
def queued (frames : List MgmtFrame) (phase : EnginePhase) : State :=
  { State.reset with mgmt := { Mgmt.afterReset with queue := frames, phase := phase } }
theorem witness_RequestTaken_dispatch :
    AtHead identifyEntry [] (withEntry identifyEntry (queued [identifyFrame true 0] .idle)) ∧
    Passes identifyEntry (withEntry identifyEntry (queued [identifyFrame true 0] .idle)) ∧
    frameKindByte identifyEntry.bytes = 4 ∧ (queued [identifyFrame true 0] .idle).mgmt.queue.length < 2 ∧
    AtHead identifyEntry [] (withEntry identifyEntry (queued [identifyFrame true 0, identifyFrame true 0] .idle)) ∧
    2 ≤ (queued [identifyFrame true 0, identifyFrame true 0] .idle).mgmt.queue.length :=
  ⟨atHead (by decide) ⟨rfl, rfl, rfl⟩, passes (by decide), by decide, by decide,
    atHead (by decide) ⟨rfl, rfl, rfl⟩, by decide⟩
theorem witness_RequestTaken_copy :
    Ready { State.reset with rx := { State.reset.rx with hand := some .mgmtCopy } } := ready (by decide)
theorem witness_RequestTaken_begin :
    Ready (queued [identifyFrame true 15] .idle) ∧ (identifyFrame true 15).addressed = false ∧
    Ready (queued [identifyFrame true 0] .replyWait) ∧ (identifyFrame true 0).addressed = true ∧
    (queued [identifyFrame true 0] .replyWait).tx.rep = [] ∧
    Ready { queued [identifyFrame true 0] .idle with tx := { State.reset.tx with rep := [[5]] } } ∧
    Ready (queued [identifyFrame false 0] .idle) ∧
    requestItems (identifyFrame true 0).bytes = some [{ code := 1, operands := [] }] :=
  ⟨ready (by decide), rfl, ready (by decide), rfl, rfl, ready (by decide), ready (by decide),
    by decide⟩

/-- A RETURN class of `k` entries at a leader that a SOUNDING reaches. -/
def answering (k : Nat) : State :=
  withEntry (entryOf 20 soundingFrame)
    { withSlot leader with tx := { State.reset.tx with ret := List.replicate k { slot := 0, tag := 7, bytes := [] } } }
theorem witness_SoundingAnswered : ∀ k ∈ [3, 4],
    AtHead (entryOf 20 soundingFrame) [] (answering k) ∧ Passes (entryOf 20 soundingFrame) (answering k) ∧
    frameKindByte soundingFrame = 2 ∧ TagsDistinct (answering k) ∧ ((answering k).slot 0).tag = byteAt soundingFrame 3 ∧
    byteAt soundingFrame 3 ≠ 0 ∧ ((answering k).slot 0).state = .leading ∧
    ((answering k).slot 0).map = some (mapOf 0 5000000 0) ∧ (mapOf 0 5000000 0).trim = 0 ∧ (answering k).tx.ret.length = k :=
  fun _ _ => ⟨atHead ⟨rfl, (by decide : (answering 0).quiet = true)⟩ ⟨rfl, rfl, rfl⟩,
    ⟨by decide, .inl rfl, rfl, by decide⟩, by decide,
    (by unfold TagsDistinct; decide : TagsDistinct (answering 0)), rfl, by decide, rfl, rfl, rfl,
    by simp [answering, withEntry]⟩
/-- No slot holds the tag; the frame's tag is 0; the slot with the tag is no leader. -/
theorem witness_SoundingAnswered_discards :
    let s := withEntry (entryOf 20 soundingFrame) State.reset
    let e := entryOf 20 [2, 0, 4, 0, 9, 0, 0, 0, 0, 1, 2]
    let t := withEntry (entryOf 20 soundingFrame) (withSlot follower)
    AtHead (entryOf 20 soundingFrame) [] s ∧ Passes (entryOf 20 soundingFrame) s ∧ TagsDistinct s ∧
    (∀ i, (s.slot i).tag ≠ byteAt soundingFrame 3) ∧ AtHead e [] (withEntry e State.reset) ∧
    Passes e (withEntry e State.reset) ∧ byteAt e.bytes 3 = 0 ∧ AtHead (entryOf 20 soundingFrame) [] t ∧
    Passes (entryOf 20 soundingFrame) t ∧ TagsDistinct t ∧ (t.slot 0).tag = byteAt soundingFrame 3 ∧
    (t.slot 0).state ≠ .leading :=
  ⟨atHead (by decide) ⟨rfl, rfl, rfl⟩, passes (by decide), by unfold TagsDistinct; decide, by decide,
    atHead (by decide) ⟨rfl, rfl, rfl⟩, passes (by decide), rfl, atHead (by decide) ⟨rfl, rfl, rfl⟩, passes (by decide),
    by unfold TagsDistinct; decide, by decide, by decide⟩

/-- A RETURN at the follower: with no record, with the residence at its limit of 2^20, and valid. -/
def returning (e : IngressEntry) (g : GroupSlot) : State := withEntry e (withSlot g)
theorem witness_ReturnRejected_record :
    let s := returning (entryOf 1000106300 returnFrame) { follower with record := none }
    AtHead (entryOf 1000106300 returnFrame) [] s ∧ Passes (entryOf 1000106300 returnFrame) s ∧ TagsDistinct s ∧
    frameKindByte returnFrame = 3 ∧ (s.slot 0).tag = byteAt returnFrame 3 ∧ byteAt returnFrame 3 ≠ 0 ∧
    (s.slot 0).role = some .follower ∧ (s.slot 0).record = none :=
  ⟨atHead (by decide) ⟨rfl, rfl, rfl⟩, passes (by decide), by unfold TagsDistinct; decide,
    by decide, by decide, by decide, rfl, rfl⟩
/-- No slot holds the tag; the slot with the tag is no follower. -/
theorem witness_ReturnRejected_discards :
    let e := entryOf 1000106300 returnFrame
    let s := withEntry e State.reset
    let t := returning e leader
    AtHead e [] s ∧ Passes e s ∧ TagsDistinct s ∧ (∀ i, (s.slot i).tag ≠ byteAt returnFrame 3) ∧
    AtHead e [] t ∧ Passes e t ∧ TagsDistinct t ∧ (t.slot 0).tag = byteAt returnFrame 3 ∧ (t.slot 0).role ≠ some .follower :=
  ⟨atHead (by decide) ⟨rfl, rfl, rfl⟩, passes (by decide), by unfold TagsDistinct; decide, by decide,
    atHead (by decide) ⟨rfl, rfl, rfl⟩, passes (by decide), by unfold TagsDistinct; decide, by decide, by decide⟩
def slowReturn : List Byte :=
  [3, 0, 2, 7, 40] ++ beBytes 6 1000100000 ++ beBytes 6 5000103100 ++ beBytes 6 (5000103100 + 1048576)
theorem witness_ReturnRejected_residence :
    let s := returning (entryOf 1002106300 slowReturn) follower
    AtHead (entryOf 1002106300 slowReturn) [] s ∧ Passes (entryOf 1002106300 slowReturn) s ∧ TagsDistinct s ∧
    (s.slot 0).role = some .follower ∧ (s.slot 0).record = some (.outstanding 40 1000100000 1001148576) ∧
    byteAt slowReturn 2 = config.leader ∧ byteAt slowReturn 4 = 40 ∧ timeAt slowReturn 5 = 1000100000 ∧
    timeDist (timeAt slowReturn 11) (timeAt slowReturn 17) = 2 ^ 20 :=
  ⟨atHead (by decide) ⟨rfl, rfl, rfl⟩, passes (by decide), by unfold TagsDistinct; decide, rfl, rfl,
    by decide, by decide, by decide, by decide⟩

/-- A slot in each state that a return can find, in ONCE and in STREAM mode; the history's least delay, 2,300, makes the path
3,300 stand at the gate's limit exactly, and 2,299 makes it fall outside. -/
def soundingSlot (st : GroupState) (mode : TriggerMode) (least : Nat) (accepted : Nat) : GroupSlot :=
  { follower with
    state := st, map := if st = .acquire then none else follower.map, config := some { config with mode := mode }
    history := [least, 3400, 3600, 3350, 3450, 3700, least, 3420], accepted := accepted }
theorem witness_ReturnTaken : ∀ st ∈ [GroupState.acquire, .track, .locked, .holdover],
    ∀ mode ∈ [TriggerMode.once, .stream], ∀ least ∈ [2299, 2300], ∀ accepted ∈ [0, 3],
    let e := entryOf 1000106300 returnFrame
    let g := soundingSlot st mode least accepted
    let c := { config with mode := mode }
    let s := returning e g
    AtHead e [] s ∧ Passes e s ∧ frameKindByte e.bytes = 3 ∧ TagsDistinct s ∧ (s.slot 0).tag = byteAt e.bytes 3 ∧
    byteAt e.bytes 3 ≠ 0 ∧ (s.slot 0).role = some .follower ∧ slotLegal (s.slot 0) = true ∧ (s.slot 0).config = some c ∧
    (s.slot 0).record = some (.outstanding 40 1000100000 1001148576) ∧ byteAt e.bytes 2 = c.leader ∧
    byteAt e.bytes 4 = 40 ∧ timeAt e.bytes 5 = 1000100000 ∧ (∀ x ∈ s.tx.snd, x.slot ≠ 0) ∧
    0 ≤ timeDist (timeAt e.bytes 11) (timeAt e.bytes 17) ∧ timeDist (timeAt e.bytes 11) (timeAt e.bytes 17) < 2 ^ 20 ∧
    0 ≤ timeDist 1000100000 e.stamp := by
  intro st hst mode hm least hl accepted ha
  simp only [List.mem_cons, List.not_mem_nil, or_false] at hst hm hl ha
  rcases hst with rfl | rfl | rfl | rfl <;> rcases hm with rfl | rfl <;> rcases hl with rfl | rfl <;>
    rcases ha with rfl | rfl
  all_goals
    exact ⟨atHead (by decide) ⟨rfl, rfl, rfl⟩, ⟨by decide, .inl rfl, rfl, by decide⟩, rfl,
      by unfold TagsDistinct; decide, rfl, by decide, rfl, rfl, rfl, rfl, rfl, rfl, by decide, by decide, by decide, by decide,
      by decide⟩
/-- R65, R67: at the gate's limit the sample is taken, and beyond it rejected; the fourth sample completes the block. -/
theorem test_sampleTaken :
    let p := fun g => sampleTaken config 1000100000 5000103100 5000106100 1000106300 3300 (soundingCompleted g)
    (p (soundingSlot .track .once 2300 0)).accepted = 1 ∧ (p (soundingSlot .track .once 2299 0)).rejected = 1 ∧
    (p (soundingSlot .locked .once 2300 3)).blockDone = some 1000106300 ∧
    (p (soundingSlot .holdover .once 2300 3)).state = .track ∧ (p (soundingSlot .holdover .once 2300 3)).accepted = 1 ∧
    (p (soundingSlot .acquire .once 2300 0)).map = some (mapOf 1000106300 5000107750 3000) := by decide

/-! #### Audio -/

/-- A frame of stream 0x2201 reaches the one LIVE route, whose release point is 98. -/
def audioState (seq : Nat) (l : Lane) (frames : List StoredFrame) : State :=
  withEntry (entryOf 5 (audioFrame seq 9000)) ((withRoute (liveRoute sinkConfig 98 frames) State.reset).setLane 1 l)

theorem onlyRoute (c : RouteConfig) (s : State)
    (h : ∀ q : RouteId, q ≠ 2 → (s.route q).taking = false) :
    ∀ q c', (s.route q).taking = true → (s.route q).config = some c' → c'.stream = c.stream → q = 2 := by
  intro q c' ht _ _
  by_contra hq
  rw [h q hq] at ht
  cases ht

/-- Lookup and admission: no route; a DRAINING one; frames of the wrong kind for SINK and SOURCE; 33 samples, one more than a
page holds; an ARMED route of the least and the greatest depth. -/
def arriving (bytes : List Byte) (t : Route) : State := withEntry (entryOf 5 bytes) (withRoute t (withSlot leader))
def longFrame : List Byte := [1, 15, 6, 0x22, 0x01, 0, 98, 1, 32] ++ beBytes 6 9000 ++ List.replicate 66 0
theorem witness_AudioFrameAdmitted_lookup :
    let e := entryOf 5 (audioFrame 98 9000)
    let s := arriving e.bytes Route.unused
    let t := arriving e.bytes { liveRoute sinkConfig 98 [] with state := .draining }
    AtHead e [] s ∧ Passes e s ∧ frameKindByte e.bytes = 1 ∧ e.disarmed = false ∧ (∀ r, (s.route r).state = .free) ∧
    AtHead e [] t ∧ Passes e t ∧ (t.route 2).state = .draining ∧ (t.route 2).config = some sinkConfig ∧
    sinkConfig.stream = audioStream e.bytes ∧ ∀ q, (t.route q).taking = false :=
  ⟨atHead (by decide) ⟨rfl, rfl, rfl⟩, passes (by decide), by decide, rfl, by decide, atHead (by decide) ⟨rfl, rfl, rfl⟩,
    passes (by decide), by decide, by decide, by decide, by decide⟩
/-- A frame marked at its hand-off by ROUTE-DISARM, with its route FREE again and with a LIVE route of its stream. -/
theorem witness_AudioFrameAdmitted_disarmed :
    let e := { entryOf 5 (audioFrame 98 9000) with disarmed := true }
    ∀ t ∈ [Route.unused, liveRoute sinkConfig 98 []],
      AtHead e [] (withEntry e (withRoute t State.reset)) ∧ Passes e (withEntry e (withRoute t State.reset)) ∧
      frameKindByte e.bytes = 1 ∧ e.disarmed = true :=
  fun _ _ => ⟨atHead ⟨rfl, (by decide : (State.reset.setRoute 2 Route.unused).quiet = true)⟩ ⟨rfl, rfl, rfl⟩,
    ⟨by decide, .inr (by decide), rfl, by decide⟩, by decide, rfl⟩
theorem witness_AudioFrameAdmitted_refused :
    let a := entryOf 5 rawFrame
    let b := entryOf 5 (audioFrame 98 9000)
    let d := entryOf 5 longFrame
    let sink := liveRoute sinkConfig 98 []
    AtHead a [] (arriving a.bytes sink) ∧ Passes a (arriving a.bytes sink) ∧ HandedTo a 2 sinkConfig (arriving a.bytes sink) ∧
    a.disarmed = false ∧ audioPtPresent a.bytes = false ∧ sinkConfig.mode = .sink ∧
    AtHead b [] (arriving b.bytes (armedRoute sourceConfig)) ∧ Passes b (arriving b.bytes (armedRoute sourceConfig)) ∧
    HandedTo b 2 sourceConfig (arriving b.bytes (armedRoute sourceConfig)) ∧
    audioPtPresent b.bytes = true ∧ sourceConfig.mode = .source ∧
    AtHead d [] (arriving d.bytes sink) ∧ Passes d (arriving d.bytes sink) ∧ HandedTo d 2 sinkConfig (arriving d.bytes sink) ∧
    audioPtPresent d.bytes = true ∧ 32 * sinkConfig.slotPages < audioN d.bytes ∧ audioN d.bytes = 33 :=
  ⟨atHead (by decide) ⟨rfl, rfl, rfl⟩, passes (by decide),
    ⟨by decide, rfl, by decide, .inr rfl, onlyRoute sinkConfig _ (by decide)⟩, rfl, by decide, rfl,
    atHead (by decide) ⟨rfl, rfl, rfl⟩, passes (by decide),
    ⟨by decide, rfl, by decide, .inl rfl, onlyRoute sourceConfig _ (by decide)⟩, by decide, rfl,
    atHead (by decide) ⟨rfl, rfl, rfl⟩, passes (by decide +kernel),
    ⟨by decide, rfl, by decide, .inr rfl, onlyRoute sinkConfig _ (by decide)⟩, by decide, by decide, by decide⟩
theorem witness_AudioFrameAdmitted_armed : ∀ depth ∈ [8, 64],
    let e := entryOf 5 (audioFrame 98 9000)
    let c := { sinkConfig with depth := depth }
    let s := arriving e.bytes (armedRoute c)
    AtHead e [] s ∧ Passes e s ∧ HandedTo e 2 c s ∧ e.disarmed = false ∧
    (s.route 2).state = .armed ∧ c.mode = .sink ∧ audioPtPresent e.bytes = true ∧ audioN e.bytes ≤ 32 * c.slotPages ∧
    8 ≤ c.depth ∧ c.depth ≤ 64 ∧ (∀ f, .valid f ∉ (s.route 2).dir) := by
  intro depth h
  simp only [List.mem_cons, List.not_mem_nil, or_false] at h
  rcases h with rfl | rfl
  all_goals
    exact ⟨atHead (by decide) ⟨rfl, rfl, rfl⟩, passes (by decide),
      ⟨by decide, rfl, by decide, .inl rfl, onlyRoute _ _ (by decide)⟩, rfl, rfl, rfl, by decide, by decide,
      by decide, by decide, fun f hf => (by have := List.eq_of_mem_replicate hf; cases this)⟩

theorem witness_AudioPlacementDecided : ∀ seq ∈ [97, 98, 101, 105, 106],
    let s := audioState seq Lane.afterReset []
    let e := entryOf 5 (audioFrame seq 9000)
    AtHead e [] s ∧ Passes e s ∧ HandedTo e 2 sinkConfig s ∧ e.disarmed = false ∧ (s.route 2).state = .live ∧
    sinkConfig.mode = .sink ∧ audioPtPresent e.bytes = true ∧ audioN e.bytes ≤ 32 * sinkConfig.slotPages ∧
    (s.route 2).release = some 98 := by
  intro seq h
  simp only [List.mem_cons, List.not_mem_nil, or_false] at h
  rcases h with rfl | rfl | rfl | rfl | rfl
  all_goals
    exact ⟨atHead (by decide) ⟨rfl, rfl, rfl⟩, passes (by decide),
      ⟨by decide, rfl, by decide, .inr rfl, onlyRoute sinkConfig _ (by decide)⟩, rfl, rfl, rfl, by decide, by decide, rfl⟩
/-- Late at -1; stored at 0 and at D - 1; slid at D; ahead at D where a lane consumes; a duplicate. -/
theorem witness_AudioPlacementDecided_distances :
    seqDist 98 97 = -1 ∧ seqDist 98 98 = 0 ∧ seqDist 98 105 = 7 ∧ seqDist 98 106 = 8 ∧
    (audioState 106 Lane.afterReset []).hasConsumer 2 = false ∧ (audioState 106 (laneOn .prime) []).hasConsumer 2 = true ∧
    AtHead (entryOf 5 (audioFrame 106 9000)) [] (audioState 106 (laneOn .prime) []) ∧
    ((audioState 101 Lane.afterReset [{ seq := 101, pt := 9000, n := 2, restart := false }]).route 2).dir.getD 5 .invalid =
      .valid { seq := 101, pt := 9000, n := 2, restart := false } :=
  ⟨by decide, by decide, by decide, by decide, by decide, by decide,
    atHead (by decide) ⟨rfl, rfl, rfl⟩, by decide⟩

/-- A raw frame on a SOURCE route that leads, its next sequence and VALID frames given; the SOURCE class holds `k` frames. -/
def sourceState (k : Nat) (next : Seq) (l : Lane) (frames : List StoredFrame) : State :=
  let t := { liveRoute sourceConfig 98 frames with lastStamp := some (25065536, 240), nextSeq := some next }
  let s := (withRoute t (withSlot leader)).setLane 1 l
  withEntry (entryOf 20000000 rawFrame) { s with tx := { s.tx with src := List.replicate k [1] } }
/-- The class with a place left and full; the frame late, stored at 0 and at D - 1, and D ahead, of the release point 98. -/
theorem witness_SourceFrameStamped : ∀ k ∈ [3, 4], ∀ next ∈ ([97, 98, 101, 105, 106] : List Seq),
    let s := sourceState k next Lane.afterReset []
    let e := entryOf 20000000 rawFrame
    AtHead e [] s ∧ Passes e s ∧ HandedTo e 2 sourceConfig s ∧ e.disarmed = false ∧ (s.route 2).state = .live ∧
    (s.route 2).release = some 98 ∧ sourceConfig.mode = .source ∧ sourceConfig.lead = some 65536 ∧
    audioPtPresent e.bytes = false ∧ audioN e.bytes ≤ 32 * sourceConfig.slotPages ∧
    (s.slot sourceConfig.slot).map = some (mapOf 0 5000000 0) ∧ (s.route 2).nextSeq = some next ∧ s.tx.src.length = k :=
  fun _ _ _ _ => ⟨atHead ⟨rfl, (by decide : (sourceState 0 0 Lane.afterReset []).quiet = true)⟩ ⟨rfl, rfl, rfl⟩,
    ⟨by decide, .inr (by decide), rfl, by decide⟩,
    ⟨by decide, rfl, by decide, .inr rfl, onlyRoute sourceConfig _ fun q hq => (by
      fin_cases q <;> first | rfl | exact absurd rfl hq)⟩,
    rfl, rfl, rfl, rfl, rfl, by decide, by decide, rfl, rfl, by simp [sourceState, withEntry, State.setLane]⟩
/-- The stamped frame D ahead with and without a lane that consumes the route, and a duplicate. -/
theorem witness_SourceFrameStamped_placed :
    let g : StoredFrame := { seq := 101, pt := 9000, n := 2, restart := false }
    (sourceState 0 106 Lane.afterReset []).hasConsumer 2 = false ∧ (sourceState 0 106 (laneOn .prime) []).hasConsumer 2 = true ∧
    AtHead (entryOf 20000000 rawFrame) [] (sourceState 0 106 (laneOn .prime) []) ∧
    ((sourceState 0 101 Lane.afterReset [g]).route 2).dir.getD 5 .invalid = .valid g :=
  ⟨by decide, by decide, atHead (by decide) ⟨rfl, rfl, rfl⟩, by decide⟩

/-- The same frame at an ARMED route. -/
theorem witness_SourceFrameStamped_armed :
    let s := withEntry (entryOf 20000000 rawFrame) (withRoute (armedRoute sourceConfig) (withSlot leader))
    AtHead (entryOf 20000000 rawFrame) [] s ∧ HandedTo (entryOf 20000000 rawFrame) 2 sourceConfig s ∧
    (s.route 2).state = .armed ∧ (s.route 2).nextSeq = some 0 ∧ 8 ≤ sourceConfig.depth ∧ sourceConfig.depth ≤ 64 :=
  ⟨atHead (by decide) ⟨rfl, rfl, rfl⟩, ⟨by decide, rfl, by decide, .inl rfl, onlyRoute sourceConfig _ (by decide)⟩, rfl, rfl,
    by decide, by decide⟩

/-! #### Discipline, due events -/

theorem witness_FilterResultDisciplined :
    let s := withSlot blockSlot
    let t := withSlot { blockSlot with state := .locked, config := some { config with filterN := 8, response := 4 } }
    s.pins.inReset = false ∧ (s.slot 0).blockDone = some 1002000000 ∧ (s.slot 0).config = some config ∧
    configInRange config = true ∧ (s.slot 0).map = some (mapOf 1000000000 5000000000 3000) ∧ (s.slot 0).state = .track ∧
    [(0, 0), (1, 1), (1, 2), (2, 3), (3, 4)][config.response]? = some (1, 2) ∧ (meanError 2 11520).natAbs < 16777216 ∧
    (t.slot 0).state = .locked ∧ (t.slot 0).config = some { config with filterN := 8, response := 4 } ∧
    configInRange { config with filterN := 8, response := 4 } = true ∧
    [(0, 0), (1, 1), (1, 2), (2, 3), (3, 4)][4]? = some (3, 4) := by decide

/-- |E| exactly 2^24, with a lane on a route of the slot and one on none. -/
def grossState (st : GroupState) : State :=
  (withRoute (liveRoute sinkConfig 98 []) (withSlot { blockSlot with state := st, errSum := 8388608 })).setLane 1 (playing 9)
theorem witness_GrossResultReacquires : ∀ st ∈ [GroupState.track, .locked],
    (grossState st).pins.inReset = false ∧ ((grossState st).slot 0).blockDone = some 1002000000 ∧
    ((grossState st).slot 0).config = some config ∧ ((grossState st).slot 0).state = st ∧
    (clampInt (-134217728) 134217728 (meanError config.filterN ((grossState st).slot 0).errSum)).natAbs = 16777216 := by
  decide
theorem witness_GrossResultReacquires_lanes : onSlot 0 (grossState .track) 1 ∧ ¬ onSlot 0 (grossState .track) 2 :=
  ⟨⟨2, sinkConfig, rfl, rfl, rfl⟩, by rintro ⟨r, c, h, -⟩; cases h⟩

theorem witness_LossTransitions :
    (∀ st ∈ [GroupState.track, .locked], ((withSlot { follower with state := st, lossDue := some .holdover }).slot 0).lossDue =
      some .holdover ∧ (withSlot { follower with state := st, lossDue := some .holdover }).pins.inReset = false) ∧
    ((withSlot { follower with state := .holdover, lossDue := some .leaderLost }).slot 0).lossDue = some .leaderLost ∧
    ((withSlot { follower with state := .holdover, lossDue := some .leaderLost }).slot 0).state = .holdover := by decide

theorem witness_TickMakesDue :
    let s := withSlot { follower with record := none, config := some { config with mode := .tick } }
    Ready s ∧ (1048576 : Time) ≠ s.time.lmc ∧ (s.slot 0).role = some .follower ∧
    (s.slot 0).config = some { config with mode := .tick } ∧ (1048576 : Time).toNat % 2 ^ 21 = 2 ^ 20 ∧
    (s.slot 1).role ≠ some .follower ∧ (65536 : Time).toNat % 2 ^ 21 ≠ 2 ^ 20 :=
  ⟨ready (by decide), by decide, rfl, rfl, by decide, by decide, by decide⟩

/-- R52, R55, R58: three slots watch bit 20, one without a record, one QUEUED, one OUTSTANDING; slot 2 is named first. The
soundings of slots 2 and 0 join the class, in that order, and slot 1 makes none. -/
theorem test_tickDue_offers :
    let g : GroupSlot := { follower with config := some { config with mode := .tick } }
    let s := ((withSlot { g with record := none }).setSlot 1 { g with tag := 8, record := some (.queued 3) }).setSlot 2
      { g with tag := 9, seqCounter := 200 }
    let t := run (.tickDue 1048576 [2]) s
    t.tx.snd.map (fun e => (e.slot, e.seq)) = [(2, 200), (0, 41)] ∧ (t.slot 2).lost = 1 ∧ (t.slot 1).record = some (.queued 3) := by
  decide +kernel

def streaming : SlotConfig := { config with mode := .stream }
theorem witness_StreamDueAndTimeout_due :
    let s := withSlot { follower with record := none, streamDue := some 90, config := some streaming }
    Ready s ∧ (s.slot 0).streamDue = some 90 ∧ (s.slot 0).role = some .follower ∧ (s.slot 0).config = some streaming ∧
    (s.slot 0).record = none ∧ ∀ e ∈ s.tx.snd, e.slot ≠ 0 :=
  ⟨ready (by decide), rfl, rfl, rfl, rfl, by decide⟩
/-- A deadline outside STREAM mode; one before t1 + 2^16 in STREAM mode; one at it exactly. -/
def timing (deadline : Time) : State :=
  withSlot { follower with record := some (.outstanding 40 1000 deadline), config := some streaming }
theorem witness_StreamDueAndTimeout_timeout :
    Ready (withSlot follower) ∧ ((withSlot follower).slot 0).record = some (.outstanding 40 1000100000 1001148576) ∧
    ((withSlot follower).slot 0).config = some config ∧ config.mode ≠ .stream ∧
    Ready (timing 66535) ∧ ((timing 66535).slot 0).record = some (.outstanding 40 1000 66535) ∧
    Ready (timing 66536) ∧ ((timing 66536).slot 0).record = some (.outstanding 40 1000 66536) ∧
    ((timing 66536).slot 0).config = some streaming ∧ ((timing 66536).slot 0).role = some .follower ∧
    timeDist (1000 + 65536) 66535 = -1 ∧ timeDist (1000 + 65536) 66536 = 0 ∧ ∀ e ∈ (timing 66536).tx.snd, e.slot ≠ 0 :=
  ⟨ready (by decide), rfl, rfl, by decide, ready (by decide), rfl, ready (by decide), rfl, rfl, rfl,
    by decide, by decide, by decide⟩

/-! #### The jitter store -/

/-- A placement of 33 samples, two pages, in flight at index 5 of route 2. -/
def inFlight (written : Nat) (abandoned : Bool) : Placement :=
  { route := 2, index := 5, frame := { seq := 101, pt := 9000, n := 33, restart := false }, base := 1280
    data := List.replicate 264 7, written := written, abandoned := abandoned }
def storing (p : Option Placement) (b : Option Burst) (reads : Vector (List Nat) 4) (rp : Seq) : State :=
  let s := withRoute (liveRoute { sinkConfig with slotPages := 2 } rp []) State.reset
  { s with store := { s.store with placement := p, burst := b, reads := reads } }
def noReads : Vector (List Nat) 4 := Vector.replicate 4 []
/-- A lane on its 64th step of a ramp-down. -/
def lastStep : Lane := { playing 5002145872 with state := .rampdown, ramp := some (.down 64 64 .wait) }

theorem witness_StoreBurstEnds :
    let s := storing (some (inFlight 0 false)) (some (.write 1280 [1, 2])) #v[[], [7], [8], []] 98
    let t := storing (some (inFlight 1 true)) (some (.write 1280 [1, 2])) noReads 98
    let u := storing none (some (.laneRead 3 9)) noReads 98
    Ready s ∧ s.store.burst = some (.write 1280 [1, 2]) ∧ s.store.placement = some (inFlight 0 false) ∧
    s.store.reads[(1 : LaneId)] = 7 :: [] ∧ (∀ j : LaneId, j < 1 → s.store.reads[j] = []) ∧
    Ready t ∧ t.store.placement = some (inFlight 1 true) ∧ (∀ j : LaneId, t.store.reads[j] = []) ∧
    (t.route 2).state ≠ .draining ∧ Ready u ∧ (∀ base bytes, Burst.laneRead 3 9 ≠ .write base bytes) ∧ u.store.placement = none :=
  ⟨ready (by decide), rfl, rfl, rfl, by decide, ready (by decide), rfl, by decide,
    by decide, ready (by decide), by rintro _ _ ⟨⟩, rfl⟩
/-- The abandoned placement of a DRAINING route, a SLOT-PEEK waiting on it; and the same with a lane still ramping down. -/
def drained (l : Lane) : State :=
  let s := (storing (some (inFlight 1 true)) (some (.write 1280 [1, 2])) noReads 98).setLane 1 l
  let s := asked .slotPeek [2, 0, 1] (s.setRoute 2 { s.route 2 with state := .draining })
  { s with mgmt := { s.mgmt with phase := .storeWait 2 0 1 } }
theorem witness_StoreBurstEnds_draining : ∀ l ∈ [Lane.afterReset, lastStep],
    Ready (drained l) ∧ (drained l).store.burst = some (.write 1280 [1, 2]) ∧
    (drained l).store.placement = some (inFlight 1 true) ∧ ((drained l).route 2).state = .draining ∧
    ((drained l).route 2).config = some { sinkConfig with slotPages := 2 } ∧
    (drained l).mgmt.phase = .storeWait 2 0 1 ∧ (drained Lane.afterReset).hasLane 2 = false ∧
    (drained lastStep).hasLane 2 = true ∧
    (reply (run .storeBurstEnd (drained Lane.afterReset))).drop 4 = [0x40, 0, 0, 9, 0, 0, 0, 0, 0, 0, 0, 0, 0] ∧
    (run .storeBurstEnd (drained lastStep)).mgmt.phase = .storeWait 2 0 1 := by
  intro l h
  simp only [List.mem_cons, List.not_mem_nil, or_false] at h
  rcases h with rfl | rfl
  all_goals
    exact ⟨ready (by decide), rfl, rfl, by decide, by decide, rfl, by decide, by decide, by decide +kernel,
      by decide +kernel⟩

theorem witness_PlacementSettled : ∀ rp ∈ ([101, 102] : List Seq),
    (storing (some (inFlight 2 false)) none noReads rp).pins.inReset = false ∧
    (storing (some (inFlight 2 false)) none noReads rp).store.placement = some (inFlight 2 false) ∧
    (inFlight 2 false).abandoned = false ∧ ((inFlight 2 false).frame.n + 31) / 32 ≤ (inFlight 2 false).written ∧
    ((storing (some (inFlight 2 false)) none noReads rp).route 2).release = some rp ∧
    seqDist 101 101 = 0 ∧ seqDist 102 101 = -1 :=
  fun _ _ => ⟨rfl, rfl, rfl, by decide, rfl, by decide, by decide⟩

/-! #### The transmitter -/

theorem witness_TimingFramesDepart_sounding :
    Ready soundingQueued ∧ soundingQueued.tx.departing = none ∧ soundingQueued.pins.txhold = false ∧
    soundingQueued.tx.ret = [] ∧ soundingQueued.tx.snd =
      [{ slot := 0, seq := 40, bytes := [2, 2, 0, 7, 40, 0, 0, 0, 0, 0, 0] }] ∧
    (soundingQueued.slot 0).record = some (.queued 40) ∧ (soundingQueued.slot 0).config = some config :=
  ⟨ready (by decide), rfl, rfl, rfl, rfl, rfl, rfl⟩
theorem witness_TimingFramesDepart_unrecorded :
    let s : State := { withSlot follower with tx := soundingQueued.tx }
    Ready s ∧ (s.slot 0).record ≠ some (.queued 40) := ⟨ready (by decide), by decide⟩
def staleReturn : ReturnEntry := { slot := 1, tag := 7, bytes := [] }
def goodReturn : ReturnEntry := { slot := 0, tag := 7, bytes := [3, 4, 0, 7, 9] ++ List.replicate 18 0 }
def returnsQueued : State :=
  { withSlot leader with tx := { State.reset.tx with ret := [staleReturn, goodReturn] } }
theorem witness_TimingFramesDepart_return :
    Ready returnsQueued ∧ returnsQueued.tx.departing = none ∧ returnsQueued.pins.txhold = false ∧
    returnsQueued.tx.ret = [staleReturn] ++ goodReturn :: [] ∧
    (∀ x ∈ [staleReturn], (returnsQueued.slot x.slot).tag = 0 ∨ (returnsQueued.slot x.slot).tag ≠ x.tag ∨
      (returnsQueued.slot x.slot).state ≠ .leading) ∧
    (returnsQueued.slot 0).tag ≠ 0 ∧ (returnsQueued.slot 0).tag = goodReturn.tag ∧ (returnsQueued.slot 0).state = .leading ∧
    (returnsQueued.slot 0).map = some (mapOf 0 5000000 0) ∧ (mapOf 0 5000000 0).trim = 0 :=
  ⟨ready (by decide), rfl, rfl, rfl, by decide, by decide, rfl, rfl, rfl, rfl⟩

/-- R13, R16: the RETURN class holds only an entry that no longer stands: it goes, and the SOUNDING departs. -/
def staleAndSounding : State :=
  { soundingQueued with tx := { soundingQueued.tx with ret := [staleReturn] } }
theorem witness_TimingFramesDepart_stale :
    Ready staleAndSounding ∧ staleAndSounding.tx.departing = none ∧ staleAndSounding.pins.txhold = false ∧
    (∀ x ∈ staleAndSounding.tx.ret, (staleAndSounding.slot x.slot).tag = 0 ∨ (staleAndSounding.slot x.slot).tag ≠ x.tag ∨
      (staleAndSounding.slot x.slot).state ≠ .leading) ∧
    staleAndSounding.tx.snd = [{ slot := 0, seq := 40, bytes := [2, 2, 0, 7, 40, 0, 0, 0, 0, 0, 0] }] ∧
    (run (.departureStart 5) staleAndSounding).tx.ret = [] ∧ (run (.departureStart 5) staleAndSounding).tx.snd = [] :=
  ⟨ready (by decide), rfl, rfl, by decide, rfl, by decide +kernel, by decide +kernel⟩

def transmitting (tx : Transmitter) : State := { State.reset with tx := tx }
theorem witness_DepartureOrder :
    Ready (run .txholdAssert State.reset) ∧ (run .txholdAssert State.reset).pins.txhold = true ∧
    Ready (transmitting { State.reset.tx with departing := some { cls := .source, bytes := [] } }) ∧
    Ready (transmitting { State.reset.tx with ret := [staleReturn], src := [[1], [2]], rep := [[5]] }) ∧
    (∀ x ∈ [staleReturn], ((transmitting { State.reset.tx with ret := [staleReturn] }).slot x.slot).tag = 0) ∧
    Ready (transmitting { State.reset.tx with rep := [[5]] }) ∧ State.reset.tx.src = [] ∧ State.reset.tx.rep = [] ∧
    State.reset.tx.snd = [] :=
  ⟨ready (by decide), rfl, ready (by decide), ready (by decide), by decide,
    ready (by decide), rfl, rfl, rfl⟩

def resetWaiting : State :=
  { transmitting { State.reset.tx with departing := some { cls := .reply, bytes := [5] } } with
    mgmt := { Mgmt.afterReset with phase := .resetWait } }
theorem witness_DepartureEnds :
    Ready (transmitting { State.reset.tx with departing := some { cls := .source, bytes := [2, 3] } }) ∧
    Ready resetWaiting ∧ resetWaiting.tx.departing = some { cls := .reply, bytes := [5] } ∧
    resetWaiting.mgmt.phase = .resetWait ∧ resetWaiting.tx.rep = [] :=
  ⟨ready (by decide), ready (by decide), rfl, rfl, rfl⟩

/-! #### Lanes and the output stage -/

theorem witness_InstantTaken : Ready State.reset ∧ InstantDue 512 State.reset ∧ (State.reset.lane 0).state = .stop ∧
    ¬ InstantDue 511 State.reset ∧ ¬ InstantDue 0 State.reset :=
  ⟨ready (by decide), instantDue (by decide), rfl, fun h => absurd h.multiple (by decide),
    fun h => by rcases h.fresh with h | h <;> exact absurd h (by decide)⟩
/-- SNS1 is accepted active at this instant under MUTE_ALL, with a lane in PLAY. -/
def muteDue : State :=
  (startState (playing 5002145872)).setInput 1 { pin := true, accepted := false, run := 47, action := .muteAll, latch := false }
theorem witness_InstantTaken_first :
    Ready muteDue ∧ InstantDue 1002144768 muteDue ∧ muteDue.muted = false ∧
    (acceptedInput (sampledInput true (muteDue.input 1))).latch = true ∧ (muteDue.lane 1).state = .play ∧
    ((run (.outputInstant 1002144768 false true true) muteDue).lane 1).state = .rampdown :=
  ⟨ready (by decide), instantDue (by decide), by decide, by decide, rfl, by decide +kernel⟩

/-- A lane in PLAY, and one in RAMPDOWN on its 64th step, on a slot with a map and on one without. -/
def stepping (g : GroupSlot) (l : Lane) : State := ((startState (laneOn .wait)).setSlot 0 g).setLane 1 l
def unmapped : GroupSlot := { lockedSlot with state := .acquire, map := none }
theorem witness_PlayheadAdvances :
    Ready (stepping lockedSlot (playing 5002145872)) ∧ Ready (stepping unmapped lastStep) ∧
    InstantDue 1002144768 (stepping lockedSlot (playing 5002145872)) ∧ InstantDue 1002144768 (stepping unmapped lastStep) ∧
    ((stepping lockedSlot (playing 5002145872)).lane 1).state = .play ∧ ((stepping unmapped lastStep).lane 1).state = .rampdown ∧
    ((stepping unmapped lastStep).lane 1).route = some 2 ∧
    ((stepping unmapped lastStep).route 2).config = some { sinkConfig with depth := 16, slotPages := 8 } ∧
    ((stepping unmapped lastStep).lane 1).playhead = some (timeToHead 5002145872) ∧
    ((stepping unmapped lastStep).slot 0).map = none ∧
    ((stepping lockedSlot lastStep).slot 0).map = some (mapOf 1002000000 5002001077 3180) :=
  ⟨ready (by decide), ready (by decide), instantDue (by decide), instantDue (by decide),
    by decide, by decide, by decide, by decide, by decide, by decide,
    by decide⟩
/-- The 64th step with a lane bound after it, and with none. -/
theorem witness_PlayheadAdvances_ends :
    let s := stepping lockedSlot lastStep
    let t := s.setLane 3 (laneOn .wait)
    Ready t ∧ InstantDue 1002144768 t ∧ (t.lane 1).state = .rampdown ∧ (t.lane 1).ramp = some (.down 64 64 .wait) ∧
    (∃ j, 1 < j ∧ (t.lane j).state ≠ .stop) ∧ ¬ (∃ j, 1 < j ∧ (s.lane j).state ≠ .stop) :=
  ⟨ready (by decide), instantDue (by decide), rfl, rfl, ⟨3, by decide⟩, by decide⟩

/-- A lane on frame 502 whose next frame, 503, was stored with the PT and the RESTART flag given, or is absent. -/
def entering503 (pt : Time) (restart : Bool) (l : Lane) : State :=
  let next : StoredFrame := { seq := 503, pt := pt, n := 240, restart := restart }
  (stepping lockedSlot l).setRoute 2
    (liveRoute { sinkConfig with depth := 16, slotPages := 8 } 500 (startFrames.take 3 ++ [next]))
/-- R142: the expected PT is 5,002,268,640; 511 ticks off is continuous, 512 or RESTART discontinuous, 505 absent. -/
theorem witness_FrameEntryMade :
    let c := { sinkConfig with depth := 16, slotPages := 8 }
    let f := currentOf 502 5002145760
    let s := fun pt restart => entering503 pt restart (playing 5002268640)
    let gone := stepping lockedSlot { playing 5002268640 with current := some (currentOf 504 5002391520), concealedRun := 3 }
    ((s 5002268640 false).lane 1).route = some 2 ∧ ((s 5002268640 false).route 2).config = some c ∧
    ((s 5002268640 false).lane 1).current = some f ∧ ((s 5002268640 false).lane 1).state = .play ∧
    ((s 5002268640 false).route 2).release = some 500 ∧
    continuousNext ((s 5002269151 false).route 2) c f = some { seq := 503, pt := 5002269151, n := 240, restart := false } ∧
    continuousNext ((s 5002268129 false).route 2) c f = some { seq := 503, pt := 5002268129, n := 240, restart := false } ∧
    discontinuousNext ((s 5002269152 false).route 2) c f ∧ discontinuousNext ((s 5002268128 false).route 2) c f ∧
    discontinuousNext ((s 5002268640 true).route 2) c f ∧
    continuousNext (gone.route 2) c (currentOf 504 5002391520) = none ∧
    ¬ discontinuousNext (gone.route 2) c (currentOf 504 5002391520) ∧ (gone.lane 1).staged = none ∧
    c.concealLimit ≤ (gone.lane 1).concealedRun ∧ (gone.lane 1).state = .play ∧
    ¬ c.concealLimit ≤ ((s 5002268640 false).lane 1).concealedRun := by
  refine ⟨rfl, rfl, rfl, rfl, rfl, by decide, by decide, ⟨_, rfl, rfl, by decide⟩, ⟨_, rfl, rfl, by decide⟩,
    ⟨_, rfl, rfl, by decide⟩, by decide, ?_, rfl, by decide, rfl, by decide⟩
  rintro ⟨g, h, -⟩
  cases h
/-- R152, R155, R162: at the limit of 3 the lane starves; a staged plan lands first. -/
theorem test_frameEntry :
    let l := { playing 5002268640 with
      current := some (currentOf 504 5002391520), concealedRun := 3, repeatSrc := some 501
      staged := some { route := none, plan := some .mix, gain := none, delay := none, amp := none } }
    let t := (stepping lockedSlot l).frameEntry 1
    (t.lane 1).state = .rampdown ∧ (t.lane 1).ramp = some (.down 1 1 .wait) ∧ (t.lane 1).concealedRun = 3 ∧
    (t.lane 1).repeatSrc = some 501 ∧ (t.lane 1).plan = .mix ∧ (t.lane 1).staged = none ∧ t.has .starved = true ∧
    t.has .concealed = true ∧ (t.route 2).counters.concealed = 1 ∧ (t.route 2).release = some 501 := by decide

/-- A lane in PLAY at its target and one 2^33 + 65,536 units off; in RAMPDOWN without a map; in PRIME, its frame reached. -/
theorem witness_LaneSteps :
    let s := stepping lockedSlot (playing 5002145872)
    let far := stepping lockedSlot (playing (5002145872 - 131073))
    let off := stepping unmapped lastStep
    let prime := startState { laneOn .prime with current := some (currentOf 502 5002145760) }
    let c := { sinkConfig with depth := 16, slotPages := 8 }
    Ready s ∧ InstantDue 1002144768 s ∧ (∀ j, j ≠ 1 → (s.lane j).state = .stop) ∧ (s.lane 1).route = some 2 ∧
    (s.route 2).config = some c ∧ (s.lane 1).current = some (currentOf 502 5002145760) ∧ (s.lane 1).state = .play ∧
    (s.lane 1).playhead = some (timeToHead 5002145872) ∧ (s.slot 0).map = some (mapOf 1002000000 5002001077 3180) ∧
    Ready far ∧ InstantDue 1002144768 far ∧ (far.lane 1).playhead = some (timeToHead (5002145872 - 131073)) ∧
    headDist (timeToHead (5002145872 - 131073)) (timeToHead
      ((mapOf 1002000000 5002001077 3180).convert (1002144768 + BitVec.ofNat 48 0))) = 2 ^ 33 + 65536 ∧
    Ready off ∧ InstantDue 1002144768 off ∧ (off.lane 1).state = .rampdown ∧ (off.slot 0).map = none ∧
    (∀ j, j ≠ 1 → (off.lane j).state = .stop) ∧
    Ready prime ∧ InstantDue 1002144768 prime ∧ (prime.lane 1).state = .prime ∧ (prime.lane 1).delay = 0 ∧
    (∀ j, j ≠ 1 → (prime.lane j).state = .stop) ∧ (prime.slot 0).map = some (mapOf 1002000000 5002001077 3180) ∧
    timeDist 5002145760 ((mapOf 1002000000 5002001077 3180).convert (1002144768 + BitVec.ofNat 48 0)) = 112 :=
  ⟨ready (by decide), instantDue (by decide), by decide, rfl, rfl, rfl, rfl, rfl, rfl, ready (by decide),
    instantDue (by decide), rfl, by decide, ready (by decide), instantDue (by decide), rfl, rfl, by decide,
    ready (by decide), instantDue (by decide), rfl, rfl, by decide, rfl, by decide⟩

/-- The start of spec/08 section 8.3; the slot in TRACK, where no start is admitted; a directory with no candidate. -/
theorem witness_WaitingLaneStarts :
    let s := startState (laneOn .wait)
    let closed := s.setSlot 0 { lockedSlot with state := .track }
    let empty := s.setRoute 2 (liveRoute { sinkConfig with depth := 16, slotPages := 8 } 500 [])
    Ready s ∧ InstantDue 1002099712 s ∧ (s.lane 1).state = .wait ∧ (∀ j, j ≠ 1 → (s.lane j).state = .stop) ∧
    (s.lane 1).route = some 2 ∧ (s.route 2).config = some { sinkConfig with depth := 16, slotPages := 8 } ∧
    (s.route 2).release = some 500 ∧ (s.slot 0).map = some (mapOf 1002000000 5002001077 3180) ∧
    (s.route 2).state = .live ∧ (s.slot 0).role = some .follower ∧ (s.slot 0).state = .locked ∧ (s.input 0).latch = false ∧
    (s.input 1).latch = false ∧ (mapOf 1002000000 5002001077 3180).convert 1002099712 = 5002100807 ∧
    DirEntry.valid { seq := 502, pt := 5002145760, n := 240, restart := false } ∈ (s.route 2).dir ∧
    (∀ g ∈ startFrames, 0 ≤ timeDist (5002100807 + 1024) g.pt → g.seq = 502 ∨ seqDist 500 502 < seqDist 500 g.seq) ∧
    Ready closed ∧ (closed.slot 0).state ≠ .locked ∧ Ready empty ∧ (∀ x ∈ (empty.route 2).dir, x = .invalid) :=
  ⟨ready (by decide), instantDue (by decide), by decide, by decide, by decide, by decide, by decide, by decide, by decide, by decide, by decide, by decide,
    by decide, by decide, by decide, by decide, ready (by decide), by decide,
    ready (by decide), by decide⟩

/-- Spec/08 section 8.3: the last instant in PRIME, 400 ticks early, and the first in PLAY, 112 ticks into the frame. -/
theorem witness_PrimedLanePlays :
    let s := startState { laneOn .prime with current := some (currentOf 502 5002145760) }
    Ready s ∧ InstantDue 1002144256 s ∧ InstantDue 1002144768 s ∧ (s.lane 1).state = .prime ∧
    (∀ j, j ≠ 1 → (s.lane j).state = .stop) ∧ (s.lane 1).route = some 2 ∧
    (s.route 2).config = some { sinkConfig with depth := 16, slotPages := 8 } ∧
    (s.slot 0).map = some (mapOf 1002000000 5002001077 3180) ∧ (s.lane 1).current = some (currentOf 502 5002145760) ∧
    (currentOf 502 5002145760).kind = .present ∧
    timeDist 5002145760 ((mapOf 1002000000 5002001077 3180).convert (1002144256 + 0)) = -400 ∧
    timeDist 5002145760 ((mapOf 1002000000 5002001077 3180).convert (1002144768 + 0)) = 112 ∧ (112 : Int) / 512 = (0 : Nat) ∧
    0 + 1 < (currentOf 502 5002145760).n :=
  ⟨ready (by decide), instantDue (by decide), instantDue (by decide), by decide, by decide, by decide,
    by decide, by decide, by decide, by decide, by decide, by decide, by decide, by decide⟩

theorem witness_RampsEnd :
    let s := State.reset.setLane 0 { playing 9 with ramp := some (.up 65) }
    let t := rampedDown.setLane 0 { rampedDown.lane 0 with ramp := some (.down 65 64 .stop) }
    let u := t.setRoute 2 { liveRoute sinkConfig 98 [] with state := .draining }
    s.pins.inReset = false ∧ (s.lane 0).ramp = some (.up 65) ∧
    rampedDown.pins.inReset = false ∧ (rampedDown.lane 0).state = .rampdown ∧
    (rampedDown.lane 0).ramp = some (.down 65 64 .wait) ∧ (rampedDown.lane 0).route = some 2 ∧
    (rampedDown.route 2).state ≠ .draining ∧ (t.lane 0).ramp = some (.down 65 64 .stop) ∧
    (u.route 2).config = some sinkConfig ∧ (u.route 2).state = .draining ∧ (∀ j, j ≠ 0 → (u.lane j).route ≠ some 2) ∧
    u.store.placement = none := by decide
/-- R115: the ramp ends while another lane holds a later frame. -/
theorem witness_RampsEnd_release :
    let s := twoPrimed.setLane 0 { rampedDown.lane 0 with current := some (currentOf 100 9000) }
    (s.lane 0).state = .rampdown ∧ (s.lane 0).ramp = some (.down 65 64 .wait) ∧ (s.lane 0).route = some 2 ∧
    (s.route 2).release = some 98 ∧ ((run (.rampEnd 0) s).route 2).release = some 103 ∧
    (run (.rampEnd 0) s).holds 2 = [103] := by decide +kernel
/-- R103, R125: the last lane's ramp ends on a DRAINING route on which a SLOT-PEEK waits: the peek reports FREE and no entries. -/
def drainedByLane : State :=
  let s := rampedDown.setLane 0 { rampedDown.lane 0 with ramp := some (.down 65 64 .stop) }
  let s := asked .slotPeek [2, 0, 1] (s.setRoute 2 { liveRoute sinkConfig 98 [] with state := .draining })
  { s with mgmt := { s.mgmt with phase := .storeWait 2 0 1 } }
theorem witness_RampsEnd_peek :
    (drainedByLane.lane 0).ramp = some (.down 65 64 .stop) ∧ (drainedByLane.route 2).state = .draining ∧
    (∀ j, j ≠ 0 → (drainedByLane.lane j).route ≠ some 2) ∧ drainedByLane.mgmt.phase = .storeWait 2 0 1 ∧
    (reply (run (.rampEnd 0) drainedByLane)).drop 4 = [0x40, 0, 0, 9, 0, 0, 0, 0, 0, 0, 0, 0, 0] := by decide +kernel

theorem witness_EnablesAndPortLines :
    let s := State.reset.setLane 3 { Lane.afterReset with holdTimer := some 77 }
    Ready s ∧ (s.lane 3).holdTimer = some 77 ∧ (s.lane 3).holdTimer ≠ some 78 ∧ s.pins.inReset = false ∧
    (run .powerOnReset State.reset).pins.inReset = true :=
  ⟨ready (by decide), rfl, by decide, rfl, rfl⟩

def sensing (accepted : Bool) (action : SenseAction) : State :=
  State.reset.setInput 1 { pin := !accepted, accepted := accepted, run := 48, action := action, latch := false }
theorem witness_SenseAccepted :
    (∀ a ∈ [true, false], ∀ x ∈ [SenseAction.none, .muteAll], (sensing a x).pins.inReset = false ∧
      48 ≤ ((sensing a x).input 1).run ∧ ((sensing a x).input 1).accepted = a ∧ ((sensing a x).input 1).action = x) ∧
    ((sensing false .muteAll).input 0).latch = false ∧ ((sensing false .muteAll).input 1).latch = false := by decide

theorem witness_MonitorWindowJudged : Ready (timebaseAt .pending) ∧ Ready (timebaseAt .refin) ∧
    windowCount 4000 (timebaseAt .pending) = 4000 ∧ windowCount 4193 (timebaseAt .refin) = 4193 :=
  ⟨ready (by decide), ready (by decide), rfl, rfl⟩

/-! #### The management engine -/

def identifyItem' : Item := { code := 1, operands := [] }
theorem witness_ItemEnds :
    (engineOn 0 [identifyItem', identifyItem'] State.reset).mgmt.todo = identifyItem' :: [identifyItem'] ∧
    (engineOn 0 [identifyItem'] State.reset).mgmt.todo = identifyItem' :: [] ∧
    (engineOn 0 [identifyItem'] State.reset).mgmt.queue = frameInHand 0 :: [] ∧ (frameInHand 0).addressed = true ∧
    (engineOn 0 [identifyItem'] State.reset).tx.rep = [] ∧
    (engineOn 15 [identifyItem'] State.reset).mgmt.queue = frameInHand 15 :: [] ∧ (frameInHand 15).addressed = false :=
  ⟨rfl, rfl, rfl, rfl, rfl, rfl, rfl⟩

/-- Results of 1,833 bytes so far: with STATUS's 207 and two more headers the reply is 2,049 bytes. -/
def nearlyFull : State :=
  let s := asked .status [] State.reset
  { s with mgmt := { s.mgmt with results := [{ code := 2, status := .done, data := List.replicate 1830 0 }] } }
theorem witness_ItemsJudged :
    Ready (engineOn 0 [{ code := 0x55, operands := [] }] State.reset) ∧ (∀ q : Request, q.code ≠ 0x55) ∧
    Ready (asked .groupClear [] State.reset) ∧ ([] : List Byte).length ≠ Request.groupClear.operandLength ∧
    Ready nearlyFull ∧ nearlyFull.mgmt.phase = .running ∧ nearlyFull.mgmt.todo = [{ code := 2, operands := [] }] ∧
    nearlyFull.mgmt.queue = frameInHand 0 :: [] ∧ ([] : List Byte).length = Request.status.operandLength ∧
    2048 < 4 + (nearlyFull.mgmt.results.map (fun x => 4 + x.data.length)).sum + 4 + Request.status.maxData + 4 * 0 :=
  ⟨ready (by decide), fun q => by cases q <;> decide, ready (by decide), by decide, ready (by decide),
    rfl, rfl, rfl, rfl, by decide +kernel⟩

theorem released_reset : State.reset.pins.inReset = false ∧ State.reset.quiet = true := by decide
theorem witness_Identify : Executing .identify [] [] (asked .identify [] State.reset) := executing _ _ _ released_reset rfl
theorem witness_StatusReported : Executing .status [] [] (asked .status [] State.reset) := executing _ _ _ released_reset rfl
theorem witness_ConditionsClearedAndMasked :
    Executing .conditionsClear [3, 0, 0, 1] [] (asked .conditionsClear [3, 0, 0, 1] State.reset) ∧
    Executing .conditionsMask [3, 0, 0, 1] [] (asked .conditionsMask [3, 0, 0, 1] State.reset) :=
  ⟨executing _ _ _ released_reset rfl, executing _ _ _ released_reset rfl⟩
theorem witness_TimebaseSelected : ∀ b ∈ ([0, 1, 255] : List Byte),
    Executing .timebaseSelect [b] [] (asked .timebaseSelect [b] State.reset) :=
  fun _ _ => executing _ _ _ released_reset rfl
theorem witness_SenseActionsWritten :
    Executing .senseAction [2, 0] [] (asked .senseAction [2, 0] State.reset) ∧ 1 < (byteAt [2, 0] 0).toNat ∧
    Executing .senseAction [1, 0] [] (asked .senseAction [1, 0] State.reset) ∧ (byteAt [1, 0] 0).toNat ≤ 1 ∧
    (byteAt [1, 0] 1).toNat ≤ 1 :=
  ⟨executing _ _ _ released_reset rfl, by decide, executing _ _ _ released_reset rfl, by decide, by decide⟩

theorem witness_DeviceResetExecuted :
    Executing .deviceReset [] [] (asked .deviceReset [] State.reset) ∧
    (asked .deviceReset [] State.reset).mgmt.queue = frameInHand 0 :: [] ∧ (frameInHand 0).addressed = true ∧
    (asked .deviceReset [] State.reset).tx.rep = [] ∧
    Executing .deviceReset [] [] (engineOn 15 [{ code := 0x7F, operands := [] }] State.reset) ∧
    (frameInHand 15).addressed = false ∧
    Executing .deviceReset [] [identifyItem'] (engineOn 0 [{ code := 0x7F, operands := [] }, identifyItem'] State.reset) :=
  ⟨executing _ _ _ released_reset rfl, rfl, rfl, rfl,
    ⟨ready (by decide), rfl, rfl, rfl, rfl⟩, rfl, ⟨ready (by decide), rfl, rfl, rfl, rfl⟩⟩

/-! #### Group slots -/

/-- Each index out of range alone: slot 4, tag 0, role 2, mode 4; then a tag another slot holds; then another tag. -/
theorem witness_GroupSetChecked_index :
    ∀ ops ∈ [groupSetOps 4 9 1 3, groupSetOps 1 0 1 3, groupSetOps 1 9 2 3, groupSetOps 1 9 1 4],
      Executing .groupSet ops [] (asked .groupSet ops State.reset) ∧
      (3 < (byteAt ops 0).toNat ∨ byteAt ops 1 = 0 ∨ 1 < (byteAt ops 2).toNat ∨ 3 < (byteAt ops 4).toNat) := by
  intro ops h
  simp only [List.mem_cons, List.not_mem_nil, or_false] at h
  rcases h with rfl | rfl | rfl | rfl <;> exact ⟨executing _ _ _ released_reset rfl, by decide⟩
theorem witness_GroupSetChecked_tags :
    Executing .groupSet (groupSetOps 1 7 1 3) [] (asked .groupSet (groupSetOps 1 7 1 3) (withSlot follower)) ∧
    (((asked .groupSet (groupSetOps 1 7 1 3) (withSlot follower)).slot 0).tag = byteAt (groupSetOps 1 7 1 3) 1) ∧
    Executing .groupSet (groupSetOps 0 9 1 3) [] (asked .groupSet (groupSetOps 0 9 1 3) (withSlot follower)) ∧
    (∀ j, j ≠ 0 → ((withSlot follower).slot j).tag ≠ 9) ∧ ((withSlot follower).slot 0).tag ≠ 0 ∧
    ((withSlot follower).slot 0).tag ≠ 9 :=
  ⟨executing _ _ _ (by decide) rfl, rfl, executing _ _ _ (by decide) rfl, by decide,
    by decide, by decide⟩

theorem witness_GroupSetCreates : ∀ ops ∈ [groupSetOps 3 9 0 0, groupSetOps 3 9 1 3, groupSetOps 3 9 1 2],
    Executing .groupSet ops [] (asked .groupSet ops State.reset) ∧ (byteAt ops 0).toNat = (3 : SlotId).val ∧
    byteAt ops 1 ≠ 0 ∧ (byteAt ops 2).toNat ≤ 1 ∧ (byteAt ops 4).toNat ≤ 3 ∧
    (∀ j, j ≠ 3 → (State.reset.slot j).tag ≠ byteAt ops 1) ∧ (State.reset.slot 3).tag = 0 ∧ (State.reset.slot 3).role = none ∧
    ∀ e ∈ State.reset.tx.snd, e.slot ≠ 3 := by
  intro ops h
  simp only [List.mem_cons, List.not_mem_nil, or_false] at h
  rcases h with rfl | rfl | rfl
  all_goals
    exact ⟨executing _ _ _ released_reset rfl, rfl, by decide, by decide, by decide, by decide, rfl, rfl,
      by decide⟩

/-- Either role kept and changed, in every trigger mode's case: STREAM mode entered with a record and without one, and kept. -/
theorem witness_GroupSetRewrites : ∀ g ∈ [leader, follower, { follower with record := none },
      { follower with record := none, streamDue := some 90, config := some { config with mode := .stream } }],
    ∀ ops ∈ [groupSetOps 0 7 0 1, groupSetOps 0 7 1 3, groupSetOps 0 7 1 2],
    Executing .groupSet ops [] (asked .groupSet ops (withSlot g)) ∧ (byteAt ops 0).toNat = (0 : SlotId).val ∧
    byteAt ops 1 ≠ 0 ∧ (byteAt ops 2).toNat ≤ 1 ∧ (byteAt ops 4).toNat ≤ 3 ∧
    (∀ j, j ≠ 0 → ((withSlot g).slot j).tag ≠ byteAt ops 1) ∧ ((withSlot g).slot 0).tag = byteAt ops 1 := by
  intro g hg ops h
  simp only [List.mem_cons, List.not_mem_nil, or_false] at h hg
  rcases hg with rfl | rfl | rfl | rfl <;> rcases h with rfl | rfl | rfl
  all_goals
    exact ⟨executing _ _ _ (by decide) rfl, rfl, by decide, by decide, by decide, by decide, rfl⟩
/-- R53, R55: STREAM mode entered makes a sounding at once; kept, it keeps the schedule. -/
theorem test_groupSet_stream :
    let t := fun g => run (.groupSet 1000) (asked .groupSet (groupSetOps 0 7 1 2) (withSlot g))
    ((t { follower with record := none }).slot 0).record = some (.queued 41) ∧
    ((t { follower with record := none, streamDue := some 90, config := some { config with mode := .stream } }).slot 0).streamDue =
      some 90 := by decide +kernel

theorem witness_GroupSlotRequests_clear :
    Executing .groupClear [4] [] (asked .groupClear [4] State.reset) ∧ 3 < (byteAt [4] 0).toNat ∧
    Executing .groupClear [3] [] (asked .groupClear [3] State.reset) ∧ (State.reset.slot 3).tag = 0 ∧
    (∀ r c, (State.reset.route r).config = some c → (State.reset.route r).state ≠ .free → c.slot ≠ 3) ∧
    Executing .groupClear [0] [] (asked .groupClear [0] (withSlot follower)) ∧ ((withSlot follower).slot 0).tag ≠ 0 ∧
    (∃ r c, ((withRoute (armedRoute sinkConfig) (withSlot follower)).route r).config = some c ∧
      ((withRoute (armedRoute sinkConfig) (withSlot follower)).route r).state ≠ .free ∧ c.slot = 0) :=
  ⟨executing _ _ _ released_reset rfl, by decide, executing _ _ _ released_reset rfl, rfl,
    fun r c h => (by fin_cases r <;> cases h), executing _ _ _ (by decide) rfl, by decide,
    ⟨2, sinkConfig, rfl, by decide, rfl⟩⟩

theorem witness_GroupSlotRequests_sound :
    Executing .groupSound [4] [] (asked .groupSound [4] State.reset) ∧
    Executing .groupSound [3] [] (asked .groupSound [3] State.reset) ∧ (State.reset.slot 3).role ≠ some .follower ∧
    Executing .groupSound [0] [] (asked .groupSound [0] (withSlot follower)) ∧
    ((withSlot follower).slot 0).role = some .follower ∧ ((withSlot follower).slot 0).config = some config ∧
    config.mode = .once ∧ (∀ seq, ((withSlot follower).slot 0).record ≠ some (.queued seq)) ∧
    Executing .groupSound [0] [] (asked .groupSound [0] soundingQueued) ∧ (soundingQueued.slot 0).record = some (.queued 40) ∧
    (∃ e ∈ soundingQueued.tx.snd, e.slot = 0) ∧
    Executing .groupMeasure [4] [] (asked .groupMeasure [4] State.reset) ∧
    Executing .groupMeasure [3] [] (asked .groupMeasure [3] State.reset) :=
  ⟨executing _ _ _ released_reset rfl, executing _ _ _ released_reset rfl, by decide,
    executing _ _ _ (by decide) rfl, rfl, rfl, rfl, by rintro _ ⟨⟩, executing _ _ _ (by decide) rfl, rfl, by decide,
    executing _ _ _ released_reset rfl, executing _ _ _ released_reset rfl⟩

/-! #### Routes and the page map -/

/-- What ROUTE-ARM asks for here: 16 entries of 8 pages. -/
def armConfig (mode : RouteMode) : RouteConfig :=
  { stream := 0x5502, slot := 0, mode := mode, depth := 16, slotPages := 8, firstPage := 0, concealMode := .repeat
    concealLimit := 3, lead := if mode = .source then some 65536 else none }
theorem witness_RouteArmDecided_index : ∀ ops ∈ [routeArmOps 8 0 0, routeArmOps 4 4 0, routeArmOps 4 0 2],
    Executing .routeArm ops [] (asked .routeArm ops State.reset) ∧ routeArmOperands ops = none := by
  intro ops h
  simp only [List.mem_cons, List.not_mem_nil, or_false] at h
  rcases h with rfl | rfl | rfl <;> exact ⟨executing _ _ _ released_reset rfl, by decide⟩
theorem witness_RouteArmDecided_refusals :
    routeArmOperands (routeArmOps 7 0 1) = some (7, armConfig .source) ∧ (State.reset.route 7).state = .free ∧
    (State.reset.slot 0).tag = 0 ∧ ((withRoute (armedRoute sinkConfig) State.reset).route 2).state ≠ .free ∧
    ((withSlot follower).slot 0).tag ≠ 0 ∧ ((withSlot follower).slot 0).state ≠ .leading ∧
    ((withSlot leader).slot 0).state = .leading ∧
    (∃ q k, q ≠ 7 ∧ ((withRoute (armedRoute (armConfig .sink)) (withSlot leader)).route q).config = some k ∧
      ((withRoute (armedRoute (armConfig .sink)) (withSlot leader)).route q).state ≠ .free ∧
      k.stream = (armConfig .source).stream) :=
  ⟨by decide +kernel, rfl, rfl, by decide, by decide, by decide, rfl,
    ⟨2, armConfig .sink, by decide, rfl, by decide, rfl⟩⟩
/-- A page map with 127 free pages in a row, one short of 16 entries of 8 pages. -/
def crowded (free : Nat) : State :=
  { withSlot leader with
    store := { State.reset.store with pages := List.replicate (1024 - free) (some 1) ++ List.replicate free none } }
theorem witness_RouteArmDecided_space :
    Executing .routeArm (routeArmOps 7 0 1) [] (asked .routeArm (routeArmOps 7 0 1) (crowded 127)) ∧
    (∀ p, p + 128 ≤ (crowded 127).store.pages.length → ∃ k, k < 128 ∧ (crowded 127).store.pages[p + k]? ≠ some none) ∧
    (∀ q k, q ≠ 7 → ((crowded 127).route q).config = some k → ((crowded 127).route q).state ≠ .free →
      k.stream ≠ (armConfig .source).stream) := by
  refine ⟨executing _ _ _ (by decide) rfl, ?_, fun q k _ h => by fin_cases q <;> cases h⟩
  intro p hp
  simp only [crowded, List.length_append, List.length_replicate] at hp
  refine ⟨0, by decide, ?_⟩
  simp only [crowded, Nat.add_zero]
  rw [List.getElem?_append_left (by rw [List.length_replicate]; omega), List.getElem?_replicate, if_pos (by omega)]
  decide
theorem witness_RouteArmDecided_armed :
    Executing .routeArm (routeArmOps 7 0 1) [] (asked .routeArm (routeArmOps 7 0 1) (crowded 128)) ∧
    ((crowded 128).route 7).state = .free ∧ ((crowded 128).slot 0).tag ≠ 0 ∧ ((crowded 128).slot 0).state = .leading ∧
    (∀ k, k < 128 → (crowded 128).store.pages[896 + k]? = some none) ∧
    (∀ q, q < 896 → ∃ k, k < 128 ∧ (crowded 128).store.pages[q + k]? ≠ some none) := by
  refine ⟨executing _ _ _ (by decide) rfl, rfl, by decide, rfl, ?_, ?_⟩
  · intro k hk
    simp only [crowded]
    rw [List.getElem?_append_right (by rw [List.length_replicate]; omega), List.getElem?_replicate,
      if_pos (by rw [List.length_replicate]; omega)]
  · intro q hq
    refine ⟨0, by decide, ?_⟩
    simp only [crowded, Nat.add_zero]
    rw [List.getElem?_append_left (by rw [List.length_replicate]; omega), List.getElem?_replicate, if_pos (by omega)]
    decide

/-- A LIVE route with a lane in PLAY and one in WAIT; one with a placement and a write burst; one with neither. -/
def bound (l : Lane) : State := (withRoute (liveRoute sinkConfig 98 []) State.reset).setLane 1 l
theorem lanesLegal_of {s : State} (h : ∀ i : LaneId, laneLegal (s.lane i) = true ∧
    ((s.lane i).route = none ∨ ((s.lane i).route = some 2 ∧ (s.route 2).state ≠ .free))) : LanesLegal s :=
  ⟨fun i => (h i).1, fun i r hr => by
    rcases (h i).2 with h' | ⟨h', hs⟩
    · rw [h'] at hr; cases hr
    · rw [h'] at hr; injection hr with hr; subst hr; exact hs⟩
theorem witness_RouteDisarmed :
    Executing .routeDisarm [8] [] (asked .routeDisarm [8] State.reset) ∧ 7 < (byteAt [8] 0).toNat ∧
    Executing .routeDisarm [7] [] (asked .routeDisarm [7] State.reset) ∧ LanesLegal (asked .routeDisarm [7] State.reset) ∧
    (State.reset.route 7).state = .free ∧
    Executing .routeDisarm [2] [] (asked .routeDisarm [2] (bound (playing 9))) ∧
    LanesLegal (asked .routeDisarm [2] (bound (playing 9))) ∧ ((bound (playing 9)).route 2).state = .live ∧
    ((bound (playing 9)).lane 1).route = some 2 ∧ ((bound (playing 9)).lane 1).state = .play ∧
    LanesLegal (asked .routeDisarm [2] (bound (laneOn .wait))) ∧
    (∀ i, ((bound (laneOn .wait)).lane i).route = some 2 → ((bound (laneOn .wait)).lane i).state ≠ .play ∧
      ((bound (laneOn .wait)).lane i).state ≠ .rampdown) ∧
    (∀ p, (bound (laneOn .wait)).store.placement = some p → p.route ≠ 2) ∧
    ((bound (laneOn .wait)).route 2).config = some sinkConfig :=
  ⟨executing _ _ _ released_reset rfl, by decide, executing _ _ _ released_reset rfl, lanesLegal_of (by decide), rfl,
    executing _ _ _ (by decide) rfl, lanesLegal_of (by decide), rfl, rfl, rfl, lanesLegal_of (by decide),
    by decide, by rintro p ⟨⟩, rfl⟩
theorem witness_RouteDisarmed_placement :
    let s := storing (some (inFlight 0 false)) (some (.laneRead 0 3)) noReads 98
    let t := storing (some (inFlight 0 false)) (some (.write 1280 [1])) noReads 98
    Executing .routeDisarm [2] [] (asked .routeDisarm [2] s) ∧ LanesLegal (asked .routeDisarm [2] s) ∧
    s.store.placement = some (inFlight 0 false) ∧ (inFlight 0 false).route = 2 ∧
    (∀ base bytes, s.store.burst ≠ some (.write base bytes)) ∧
    Executing .routeDisarm [2] [] (asked .routeDisarm [2] t) ∧ t.store.burst = some (.write 1280 [1]) :=
  ⟨executing _ _ _ (by decide) rfl, lanesLegal_of (by decide), rfl, rfl, by rintro _ _ ⟨⟩,
    executing _ _ _ (by decide) rfl, rfl⟩
/-- R103, R104: no lane on the route, a placement in flight: DRAINING while its write burst is under way, FREE at once otherwise;
and one lane in PRIME beside one in PLAY. -/
theorem witness_RouteDisarmed_held :
    let s := fun b => asked .routeDisarm [2] (storing (some (inFlight 0 false)) (some b) noReads 98)
    let t := asked .routeDisarm [2] (twoPrimed.setLane 1 { playing 9 with current := some (currentOf 103 9000) })
    ((run (.routeDisarm 7) (s (.write 1280 [1]))).route 2).state = .draining ∧
    ((run (.routeDisarm 7) (s (.laneRead 0 3))).route 2).state = .free ∧
    (∀ i, ((s (.laneRead 0 3)).lane i).route ≠ some 2) ∧
    LanesLegal t ∧ (t.lane 0).state = .prime ∧ (∀ j, j ≠ 0 → (t.lane j).route = some 2 → (t.lane j).state ≠ .prime) ∧
    (t.lane 1).state = .play ∧ ((run (.routeDisarm 7) t).route 2).release = some 103 :=
  ⟨by decide +kernel, by decide +kernel, by decide, lanesLegal_of (by decide), rfl, by decide, rfl, by decide +kernel⟩

/-- R104: an AUDIO frame at its hand-off to the route; the same behind a hand that copies a REQUEST; a frame of another stream. -/
theorem witness_RouteDisarmed_handOff :
    let e := entryOf 5 (audioFrame 98 9000)
    let s := asked .routeDisarm [2] (audioState 98 Lane.afterReset [])
    let t : State := { s with rx := { s.rx with hand := some .mgmtCopy } }
    let x := entryOf 5 ([1, 15, 6, 0x22, 0x02] ++ e.bytes.drop 5)
    Executing .routeDisarm [2] [] s ∧ LanesLegal s ∧ (∀ p, s.store.placement = some p → p.route ≠ 2) ∧ s.rx.hand = none ∧
    s.rx.ingress = [e] ∧ e.phase = .complete ∧ Passes e s ∧ HandedTo e 2 sinkConfig s ∧
    Executing .routeDisarm [2] [] t ∧ t.rx.hand ≠ none ∧
    Executing .routeDisarm [2] [] (withEntry x s) ∧ sinkConfig.stream ≠ audioStream x.bytes :=
  ⟨executing _ _ _ (by decide) rfl, lanesLegal_of (by decide), by rintro p ⟨⟩, rfl, rfl, rfl, passes (by decide),
    ⟨by decide, rfl, by decide, .inr rfl, onlyRoute sinkConfig _ (by decide)⟩, ⟨ready (by decide), rfl, rfl, rfl, rfl⟩,
    by decide, ⟨ready (by decide), rfl, rfl, rfl, rfl⟩, by decide⟩

theorem witness_CountsAndPagesRead :
    Executing .routeCounts [8, 0] [] (asked .routeCounts [8, 0] State.reset) ∧ 7 < (byteAt [8, 0] 0).toNat ∧
    Executing .routeCounts [7, 0] [] (asked .routeCounts [7, 0] State.reset) ∧ byteAt [7, 0] 1 = 0 ∧
    Executing .routeCounts [7, 255] [] (asked .routeCounts [7, 255] State.reset) ∧ byteAt [7, 255] 1 ≠ 0 ∧
    Executing .pageRuns [0x04, 0x00, 0] [] (asked .pageRuns [0x04, 0x00, 0] State.reset) ∧
    State.reset.store.pages.length = 1024 :=
  ⟨executing _ _ _ released_reset rfl, by decide, executing _ _ _ released_reset rfl, rfl, executing _ _ _ released_reset rfl,
    by decide, executing _ _ _ released_reset rfl, by decide +kernel⟩

theorem witness_SlotPeeked :
    Executing .slotPeek [8, 0, 1] [] (asked .slotPeek [8, 0, 1] State.reset) ∧ 7 < (byteAt [8, 0, 1] 0).toNat ∧
    Executing .slotPeek [7, 0, 1] [] (asked .slotPeek [7, 0, 1] State.reset) ∧ (State.reset.route 7).state = .free ∧
    Executing .slotPeek [2, 9, 0] [] (asked .slotPeek [2, 9, 0] (bound (laneOn .wait))) ∧
    ((bound (laneOn .wait)).route 2).state ≠ .free ∧ ((bound (laneOn .wait)).route 2).config = some sinkConfig ∧
    0 < sinkConfig.depth ∧ Ready peeking ∧ peeking.mgmt.phase = .storeWait 2 5 1 ∧
    (peeking.route 2).config = some sinkConfig ∧ peeking.store.burst = none ∧
    (∀ i : LaneId, peeking.store.reads[i] = []) ∧ peeking.store.placement = none :=
  ⟨executing _ _ _ released_reset rfl, by decide, executing _ _ _ released_reset rfl, rfl,
    executing _ _ _ (by decide) rfl, by decide, rfl, by decide, ready (by decide +kernel), by decide +kernel,
    by decide +kernel, by decide +kernel, by decide +kernel, by decide +kernel⟩
theorem witness_SlotPeeked_held :
    let s : State := { peeking with store := { peeking.store with burst := some (.laneRead 0 3) } }
    Ready s ∧ s.mgmt.phase = .storeWait 2 5 1 ∧ s.store.burst.isSome = true :=
  ⟨ready (by decide +kernel), by decide +kernel, rfl⟩
/-- A placement whose last burst has ended and that is not yet settled, and one with a page to write. -/
theorem witness_SlotPeeked_placement :
    let s : Nat → State := fun k => { peeking with store := { peeking.store with placement := some (inFlight k false) } }
    (s 2).quietUnplaced = true ∧ (s 2).quiet = false ∧ (inFlight 2 false).abandoned = false ∧
    ¬ (inFlight 2 false).written < ((inFlight 2 false).frame.n + 31) / 32 ∧ (s 1).quietUnplaced = true ∧
    (inFlight 1 false).written < ((inFlight 1 false).frame.n + 31) / 32 ∧ (s 2).mgmt.phase = .storeWait 2 5 1 := by
  decide +kernel

/-! #### Lane requests -/

def bindValue : Settings := { route := some 2, plan := none, gain := some 20000, delay := none, amp := none }
theorem witness_LaneBound_index : ∀ ops ∈ [laneBindOps 4 2, laneBindOps 3 8],
    Executing .laneBind ops [] (asked .laneBind ops State.reset) ∧ laneBindOperands ops = none := by
  intro ops h
  simp only [List.mem_cons, List.not_mem_nil, or_false] at h
  rcases h with rfl | rfl <;> exact ⟨executing _ _ _ released_reset rfl, by decide⟩
theorem witness_LaneBound :
    laneBindOperands (laneBindOps 1 2) = some (1, 2, bindValue) ∧
    (∀ l ∈ [Lane.afterReset, laneOn .wait, { laneOn .prime with current := some (currentOf 98 5) }, playing 9],
      (bound l).pins.inReset = false ∧ (bound l).quiet = true ∧ ((bound l).lane 1).staged = none ∧
      ((bound l).route 2).state = .live) ∧
    (State.reset.route 2).state ≠ .armed ∧ (State.reset.route 2).state ≠ .live ∧
    Executing .laneBind (laneBindOps 1 2) [] (asked .laneBind (laneBindOps 1 2) (bound (playing 9))) ∧
    ({ laneOn .prime with route := some 3 } : Lane).route ≠ some 2 :=
  ⟨by decide, by decide, by decide, by decide, executing _ _ _ (by decide) rfl,
    by decide⟩

def stagedLane : Lane := { playing 9 with staged := some bindValue }
theorem witness_LaneGainAndWait :
    Executing .laneGain [4, 0, 0] [] (asked .laneGain [4, 0, 0] State.reset) ∧ 3 < (byteAt [4, 0, 0] 0).toNat ∧
    Executing .laneGain [3, 0, 0] [] (asked .laneGain [3, 0, 0] State.reset) ∧ (State.reset.lane 3).staged = none ∧
    (State.reset.lane 3).state = .stop ∧
    Executing .laneGain [1, 0, 0] [] (asked .laneGain [1, 0, 0] (bound (playing 9))) ∧
    ((bound (playing 9)).lane 1).state = .play ∧ ((bound (playing 9)).lane 1).staged = none ∧
    Executing .laneGain [1, 0, 0] [] (asked .laneGain [1, 0, 0] (bound stagedLane)) ∧
    ((bound stagedLane).lane 1).staged ≠ none ∧
    Executing .laneBind (laneBindOps 1 2) [] (asked .laneBind (laneBindOps 1 2) (bound stagedLane)) :=
  ⟨executing _ _ _ released_reset rfl, by decide, executing _ _ _ released_reset rfl, rfl, rfl,
    executing _ _ _ (by decide) rfl, rfl, rfl, executing _ _ _ (by decide) rfl, by decide,
    executing _ _ _ (by decide) rfl⟩
def waiting (q : Request) (ops : List Byte) (s : State) : State :=
  let s := asked q ops s
  { s with mgmt := { s.mgmt with phase := .laneWait 1 } }
theorem witness_LaneGainAndWait_end :
    Ready (waiting .laneGain [1, 0x4E, 0x20] (bound stagedLane)) ∧
    Ready (waiting .laneGain [1, 0x4E, 0x20] (bound (laneOn .wait))) ∧
    (waiting .laneGain [1, 0x4E, 0x20] (bound (laneOn .wait))).mgmt.todo = [{ code := 0x32, operands := [1, 0x4E, 0x20] }] ∧
    ((bound (laneOn .wait)).lane 1).staged = none ∧ ([1, 0x4E, 0x20] : List Byte).length = 3 ∧
    (byteAt [1, 0x4E, 0x20] 0).toNat = (1 : LaneId).val ∧ ((bound (laneOn .wait)).lane 1).state = .wait ∧
    Ready (waiting .laneBind (laneBindOps 1 2) (bound (laneOn .wait))) ∧ ((bound (laneOn .wait)).route 2).state = .live ∧
    Ready (waiting .laneBind (laneBindOps 1 2) State.reset) ∧ (State.reset.route 2).state ≠ .armed :=
  ⟨ready (by decide), ready (by decide), rfl, rfl, rfl, rfl, rfl, ready (by decide), rfl,
    ready (by decide), by decide⟩
/-- The wait's end in PLAY and RAMPDOWN, and for LANE-BIND in PRIME, on the route named and on another. -/
theorem witness_LaneGainAndWait_live :
    (∀ l ∈ [playing 9, lastStep], Ready (waiting .laneGain [1, 0x4E, 0x20] (bound l)) ∧ ((bound l).lane 1).staged = none) ∧
    ((bound lastStep).lane 1).state = .rampdown ∧
    (∀ r ∈ [2, 3], let l := { laneOn .prime with route := some r, current := some (currentOf 98 5) }
      Ready (waiting .laneBind (laneBindOps 1 2) (bound l)) ∧ ((bound l).lane 1).staged = none ∧
      ((bound l).lane 1).state = .prime ∧ ((bound l).route 2).state = .live) := by
  refine ⟨?_, rfl, ?_⟩
  · intro l h
    simp only [List.mem_cons, List.not_mem_nil, or_false] at h
    rcases h with rfl | rfl <;> exact ⟨ready (by decide), rfl⟩
  · intro r h
    simp only [List.mem_cons, List.not_mem_nil, or_false] at h
    rcases h with rfl | rfl <;> exact ⟨ready (by decide), rfl, rfl, rfl⟩

theorem witness_LaneUnbound :
    Executing .laneUnbind [4] [] (asked .laneUnbind [4] State.reset) ∧ 3 < (byteAt [4] 0).toNat ∧
    Executing .laneUnbind [3] [] (asked .laneUnbind [3] State.reset) ∧ (byteAt [3] 0).toNat = (3 : LaneId).val ∧
    Executing .laneUnbind [1] [] (asked .laneUnbind [1] (bound stagedLane)) ∧
    Executing .laneUnbind [0] [] (asked .laneUnbind [0] twoPrimed) ∧ (twoPrimed.lane 0).state = .prime ∧
    (twoPrimed.lane 0).route = some 2 :=
  ⟨executing _ _ _ released_reset rfl, by decide, executing _ _ _ released_reset rfl, rfl,
    executing _ _ _ (by decide) rfl, executing _ _ _ (by decide) rfl, rfl, rfl⟩

/-! #### Laws: a part at work meets them and steps -/

/-- A leader with a LIVE route of its own, a lane in PLAY on it, a byte in the store, and a command waiting. -/
def working : State :=
  let s := (withRoute (liveRoute sinkConfig 98 [{ seq := 101, pt := 9000, n := 2, restart := false }]) (withSlot leader)).setLane 1
    (playing 9)
  { s with store := { s.store with mem := [(7, 3)] }, pending := [.outputInstant 512 false false false] }
theorem witness_StoreStaysLegal : MemoryCanonical working ∧ ∃ t, step working = .next t :=
  ⟨by unfold MemoryCanonical; decide, _, rfl⟩
theorem witness_SlotsStayLegal : SlotsLegal working ∧ TagsDistinct working ∧ ConfigsInRange working :=
  ⟨by unfold SlotsLegal; decide, by unfold TagsDistinct; decide,
    fun i c h => by fin_cases i <;> first | (injection h with h; subst h; decide) | cases h⟩
theorem witness_LanesStayLegal : LanesLegal working := lanesLegal_of (by decide)
theorem witness_QueuesStayLegal : WithinCapacity working :=
  ⟨by decide, by decide, by decide, by decide, by decide, by decide,
    by decide⟩

theorem working_route (r : RouteId) (h : r ≠ 2) : working.route r = Route.unused := by
  fin_cases r <;> first | rfl | exact absurd rfl h
/-- A SOURCE route on the leader, and a frame in reception behind one in placement. -/
theorem witness_SlotsStayLegal_sources :
    SourcesLed (withRoute (liveRoute sourceConfig 98 []) (withSlot leader)) ∧
    ((withRoute (liveRoute sourceConfig 98 []) (withSlot leader)).route 2).config = some sourceConfig := by
  refine ⟨fun r c h _ => ?_, rfl⟩
  have hc : c.slot = 0 := by fin_cases r <;> first | (injection h with h; subst h; rfl) | cases h
  rw [hc]; rfl
def placingWhileReceiving : State :=
  let s := storing (some (inFlight 0 false)) none noReads 98
  { s with rx := { inside := true, ingress := [entryOf 1 []] ++ [inReception 5], hand := some .routeUnit } }
theorem witness_QueuesStayLegal_receiver : ReceiverLegal placingWhileReceiving :=
  ⟨(by rintro ⟨⟩), fun _ => ⟨[entryOf 1 []], inReception 5, rfl, rfl, by decide⟩,
    fun _ _ => ⟨entryOf 1 [], [inReception 5], rfl, rfl⟩, ⟨fun _ => rfl, fun _ => rfl⟩⟩
theorem witness_RoutesConfigured : RoutesConfigured working := by
  intro r
  by_cases h : r = 2
  · subst h; decide
  · rw [working_route r h]; decide
theorem witness_StoreStaysLegal_pages : PagesLegal working := by
  refine ⟨by decide +kernel, fun r p => ?_⟩
  have pages : working.store.pages = List.replicate 8 (some 2) ++ List.replicate 1016 none := rfl
  rw [pages]
  by_cases h : r = 2
  · subst h
    constructor
    · intro hp
      refine ⟨sinkConfig, rfl, Nat.zero_le _, ?_⟩
      by_contra hlt
      have : 8 ≤ p := by simpa [sinkConfig] using hlt
      rw [List.getElem?_append_right (by simpa using this), List.getElem?_replicate] at hp
      split at hp <;> cases hp
    · rintro ⟨c, hc, -, hlt⟩
      have : sinkConfig = c := by injection hc
      subst this
      have : p < 8 := by simpa [sinkConfig] using hlt
      rw [List.getElem?_append_left (by simpa using this), List.getElem?_replicate, if_pos this]
  · constructor
    · intro hp
      exfalso
      rcases Nat.lt_or_ge p 8 with hlt | hge
      · rw [List.getElem?_append_left (by simpa using hlt), List.getElem?_replicate, if_pos hlt] at hp
        injection hp with hp; injection hp with hp; exact h hp.symm
      · rw [List.getElem?_append_right (by simpa using hge), List.getElem?_replicate] at hp
        split at hp <;> cases hp
    · rintro ⟨c, hc, -⟩
      rw [working_route r h] at hc; cases hc

theorem unused_window : RouteWindow Route.unused :=
  ⟨fun _ e f h => (by simp [Route.unused] at h), fun _ _ _ _ h => (by cases h), fun _ h => (by cases h), fun _ => ⟨rfl, rfl⟩,
    (by rintro ⟨⟩), fun _ => rfl⟩
theorem witness_WindowsStayLegal : WindowsLegal working ∧ PlacementLegal working ∧ PlacementBelow working := by
  refine ⟨fun r => ?_, by rintro p ⟨⟩, by rintro p c rp ⟨⟩⟩
  by_cases h : r = 2
  · subst h
    refine ⟨(by rintro ⟨⟩), ?_, ?_, (by rintro ⟨⟩), fun _ => rfl, (by rintro ⟨⟩)⟩
    · rintro c rp e f hc hr he
      have hc' : sinkConfig = c := by injection hc
      have hr' : (98 : Seq) = rp := by injection hr
      subst hc' hr'
      have all : ∀ k : Fin 8, ∀ g, (working.route 2).dir[k.val]? = some (.valid g) →
          0 ≤ seqDist 98 g.seq ∧ seqDist 98 g.seq < sinkConfig.depth ∧ k.val = g.seq.toNat % sinkConfig.depth := by
        intro k g hg
        fin_cases k <;> first | (injection hg with hg; injection hg with hg; subst hg; decide) | (injection hg with hg; cases hg)
      have hlen : (working.route 2).dir.length = 8 := by decide
      have hlt : e < 8 := by
        by_contra hge
        rw [List.getElem?_eq_none (by omega)] at he
        cases he
      exact all ⟨e, hlt⟩ f he
    · intro c hc
      have hc' : sinkConfig = c := by injection hc
      subst hc'
      decide
  · rw [working_route r h]; exact unused_window

/-- R120: a placement that a step leaves in flight, its route's release point not moved. -/
theorem witness_WindowsStayLegal_placement :
    let s := storing (some (inFlight 0 false)) (some (.write 1280 [1, 2])) noReads 98
    PlacementLegal s ∧ PlacementBelow s ∧ ReleaseNear s (run .storeBurstEnd s) ∧
    (run .storeBurstEnd s).store.placement = some (inFlight 1 false) := by
  have after : ((run .storeBurstEnd (storing (some (inFlight 0 false)) (some (.write 1280 [1, 2])) noReads 98)).route 2).release =
      some 98 := by decide +kernel
  refine ⟨?_, ?_, ?_, by decide +kernel⟩
  · rintro p hp
    have hp' : inFlight 0 false = p := by injection hp
    subst hp'
    exact ⟨_, rfl, rfl⟩
  · rintro p c rp hp hc hr
    have hp' : inFlight 0 false = p := by injection hp
    subst hp'
    have hc' : { sinkConfig with slotPages := 2 } = c := by injection hc
    have hr' : (98 : Seq) = rp := by injection hr
    subst hc' hr'
    decide
  · rintro p p' rp rp' hp _ _ _ hr ht
    have hp' : inFlight 0 false = p := by injection hp
    subst hp'
    have hr' : (98 : Seq) = rp := by injection hr
    have ht' : (98 : Seq) = rp' := Option.some.inj (after.symm.trans ht)
    subst hr' ht'
    decide

theorem witness_ConditionsPersist :
    (∃ t, exec (.sofArrival 5 true) State.reset = .next t ∧ t.cond.present ≠ 0) ∧ State.reset.pending = [] ∧
    (Instr.sofArrival 5 true) ≠ .powerOnReset ∧ (Instr.departureEnd = .departureEnd → State.reset.mgmt.phase ≠ .resetWait) :=
  ⟨⟨_, rfl, by decide +kernel⟩, rfl, by decide, fun _ => by decide⟩


end Sys2Proof.Tests
end

section
/-! The output arithmetic (spec/10 section 10.1): each stage as an equation, then a value through stages 2 to 5 as the signed
number its 24 bits hold. -/

namespace Sys2Proof.Machine

theorem clampInt_eq_max_min (lo hi x : Int) (h : lo ≤ hi) : clampInt lo hi x = max lo (min hi x) := by
  unfold clampInt; split_ifs <;> omega

/-- R168: the shift as a floor division by a power of the integer 2 (the model casts the power from `Nat`). -/
theorem attenuate_eq (k : Nat) (v : Int) : attenuate k v = v / 2 ^ k := by
  simp only [attenuate, Nat.cast_pow, Nat.cast_ofNat]

theorem saturate_eq (v : Int) : saturate v = max (-8388608) (min 8388607 v) :=
  clampInt_eq_max_min _ _ _ (by decide)

theorem saturate_mem (v : Int) : -8388608 ≤ saturate v ∧ saturate v ≤ 8388607 :=
  clampInt_mem _ _ _ (by decide)

/-- A saturated value fits a sample, so that encoding it in 24 bits loses nothing. -/
theorem toInt_ofInt_saturate (v : Int) : (BitVec.ofInt 24 (saturate v)).toInt = saturate v := by
  obtain ⟨hlo, hhi⟩ := saturate_mem v
  exact BitVec.toInt_ofInt_eq_self (by decide) (by omega) (by omega)

theorem shapeValue_toInt (sh : Shaping) (v : Int) : (shapeValue sh v).toInt =
    max (-8388608) (min 8388607 (applyRamp sh.ramp (v / 2 ^ sh.depth * sh.gain / 32768))) := by
  rw [shapeValue, toInt_ofInt_saturate, saturate_eq, attenuate_eq, applyGain]

theorem shapePair_eq (sh : Shaping) (l r : Int) : shapePair sh l r =
    { left := shapeValue sh (applyPlan sh.plan l r).1, right := shapeValue sh (applyPlan sh.plan l r).2 } := rfl

end Sys2Proof.Machine

namespace Sys2Proof.Proofs

open Sys2Proof.Machine

/-- Settles O24: the plan is the statement's by definition, and each value is the saturated one because saturation leaves it
in the range of 24 bits. -/
theorem outputArithmetic : Obligations.OutputArithmetic := by
  unfold Obligations.OutputArithmetic
  intro sh l r ramped shaped planned
  have hramp : ∀ v, applyRamp sh.ramp v = ramped v := fun _ => rfl
  have hplan : applyPlan sh.plan l r = planned := rfl
  have hshape : ∀ v, (shapeValue sh v).toInt = shaped v := fun v => by rw [shapeValue_toInt, hramp]
  rw [shapePair_eq, hplan]
  exact ⟨hshape planned.1, hshape planned.2⟩

end Sys2Proof.Proofs
end

section
/-! The management requests IDENTIFY, TIMEBASE-SELECT, SENSE-ACTION and LANE-UNBIND (spec/11 section 11.2): what each does on an
item that passes the tests of R180, from what its body does to the timebase, the sense inputs and the lanes. -/

namespace Sys2Proof.Machine

open Sys2Proof.Safety

variable {s : State}

/-! ### The commands on an item that passes -/

section Executing

variable {ops : List Byte} {rest : List Item}

theorem exec_identify (h : Executing .identify ops rest s) : exec .identify s = .next (s.finishItem .done s.identifyReport) :=
  congrArg Host.Outcome.next (act_runItem h identifyItem)

theorem exec_timebaseSelect (h : Executing .timebaseSelect ops rest s) :
    exec .timebaseSelect s = .next ((s.selectSource (byteAt ops 0 != 0)).finishItem .done []) :=
  congrArg Host.Outcome.next (act_runItem h timebaseSelectItem)

theorem exec_senseAction (h : Executing .senseAction ops rest s) : exec .senseAction s = .next (senseActionItem ops s) :=
  congrArg Host.Outcome.next (act_runItem h senseActionItem)

theorem exec_laneUnbind (h : Executing .laneUnbind ops rest s) (now : Time) :
    exec (.laneUnbind now) s = .next (laneUnbindItem ops (s.clockTo now)) :=
  congrArg Host.Outcome.next (actAt_runItem h now laneUnbindItem)

end Executing

/-- R181: the end of an item undone in the engine and the REPLY class gives the part back. -/
theorem finishItem_undo (st : Status) (data : List Byte) :
    { s.finishItem st data with mgmt := s.mgmt, tx := { (s.finishItem st data).tx with rep := s.tx.rep } } = s := by
  obtain ⟨rep, mgmt, h⟩ := finishItem_frame (s := s) st data
  rw [h]

/-! ### The report of IDENTIFY -/

theorem identifyReport_eq : s.identifyReport =
    [0x0E, 0x52, 0x04, 0x40, 1, s.pins.linkAddress, BitVec.ofNat 8 s.pins.straps.toNat, if s.pins.aenpol then 1 else 0] := by
  have vendor : beBytes 2 Config.vendorCode = [0x0E, 0x52] := by decide
  have part : beBytes 2 Config.partCode = [0x04, 0x40] := by decide
  rw [State.identifyReport, vendor, part, BitVec.ofNat_toNat]
  rfl

/-! ### The actions of the sense inputs -/

theorem senseActionOf_eq_none {b : Byte} (h : 1 < b.toNat) : senseActionOf b = none := by
  have h0 : b ≠ 0 := by rintro rfl; simp at h
  have h1 : b ≠ 1 := by rintro rfl; simp at h
  rw [senseActionOf, if_neg h0, if_neg h1]

theorem byte_eq_zero_or_one {b : Byte} (h : b.toNat ≤ 1) : b = 0 ∨ b = 1 := by bv_omega

/-- R191: an action byte's effect on its input: NONE clears the latch, MUTE_ALL keeps it. -/
def SenseInput.written (b : Byte) (x : SenseInput) : SenseInput :=
  if b = 0 then { x with action := .none, latch := false } else { x with action := .muteAll }

/-- A byte of 0 or 1 names an action, and setting that action is what the byte's writing does. -/
theorem senseActionOf_some {b : Byte} (h : b.toNat ≤ 1) :
    ∃ a, senseActionOf b = some a ∧ ∀ x : SenseInput, x.setAction a = x.written b := by
  rcases byte_eq_zero_or_one h with rfl | rfl
  · exact ⟨.none, rfl, fun _ => rfl⟩
  · exact ⟨.muteAll, rfl, fun _ => rfl⟩

/-- R176, R191: a latch is left exactly where it was set and MUTE_ALL is written. -/
theorem written_latch {b : Byte} (h : b.toNat ≤ 1) (x : SenseInput) :
    (x.written b).latch = true ↔ b = 1 ∧ x.latch = true := by
  rcases byte_eq_zero_or_one h with rfl | rfl <;> simp [SenseInput.written]

theorem setInput_both (x y : SenseInput) : (s.setInput 0 x).setInput 1 y = { s with sense := #v[x, y] } := by
  have h : (s.sense.set 0 x).set 1 y = #v[x, y] := by
    ext k hk : 1
    obtain rfl | rfl : k = 0 ∨ k = 1 := by omega
    all_goals simp
  exact congrArg (fun v => { s with sense := v }) h

/-- R191: an action byte above 1 in either field refuses the item before any input is written. -/
theorem senseActionItem_refused {ops : List Byte} (h : 1 < (byteAt ops 0).toNat ∨ 1 < (byteAt ops 1).toNat) :
    senseActionItem ops s = s.finishItem .refusedIndex [] := by
  unfold senseActionItem
  rcases h with h | h
  · rw [senseActionOf_eq_none h]
  · rw [senseActionOf_eq_none h]
    cases senseActionOf (byteAt ops 0) <;> rfl

theorem senseActionItem_done {ops : List Byte} (h0 : (byteAt ops 0).toNat ≤ 1) (h1 : (byteAt ops 1).toNat ≤ 1) :
    senseActionItem ops s = State.finishItem .done []
      { s with sense := #v[(s.input 0).written (byteAt ops 0), (s.input 1).written (byteAt ops 1)] } := by
  obtain ⟨a, ha, written0⟩ := senseActionOf_some h0
  obtain ⟨b, hb, written1⟩ := senseActionOf_some h1
  simp only [senseActionItem, ha, hb, written0, written1, setInput_both]

/-- R176: the mute stands while a latch is left. -/
theorem muted_iff : s.muted = true ↔ (s.input 0).latch = true ∨ (s.input 1).latch = true := by
  rw [State.muted, Bool.or_eq_true]

/-! ### The unbinding of a lane -/

theorem laneOf_eq_none {b : Byte} (h : 3 < b.toNat) : laneOf b = none := by
  rw [laneOf, dif_neg (by omega)]

theorem laneOf_eq_some {b : Byte} {i : LaneId} (h : b.toNat = i.val) : laneOf b = some i := by
  have hlt : b.toNat < 4 := h ▸ i.isLt
  rw [laneOf, dif_pos hlt]
  exact congrArg some (Fin.ext h)

theorem modLane_setLane (i : LaneId) (f : Lane → Lane) (l : Lane) : (s.modLane i f).setLane i l = s.setLane i l := by
  simp [State.modLane, State.setLane]

/-- A move after a change of the lane's own record is a move of the lane, where the change keeps the binding. -/
theorem LaneMove.of_modLane {i : LaneId} {f : Lane → Lane} {l : Lane} {t : State}
    (hf : (f (s.lane i)).route = (s.lane i).route) (h : LaneMove i l (s.modLane i f) t) : LaneMove i l s t := by
  simpa only [LaneMove, modLane_setLane, State.modLane_lane_self, State.modLane_route, hf] using h

/-- A lane without its staged change. -/
def Lane.unstaged (l : Lane) : Lane := { l with staged := none }

/-- R164: an unbinding is a cause with destination STOP on the lane without its staged change. -/
theorem unbindLane_eq (i : LaneId) : s.unbindLane i = (s.modLane i Lane.unstaged).drainLane i := rfl

theorem afterStopCause_unstaged (now : Time) (l : Lane) :
    afterStopCause now l.unstaged = { afterStopCause now l with staged := none } := by
  unfold afterStopCause
  rw [show l.unstaged.state = l.state from rfl]
  cases l.state <;> rfl

theorem unbindLane_move (i : LaneId) :
    LaneMove i { afterStopCause s.time.lmc (s.lane i) with staged := none } s (s.unbindLane i) := by
  have h := drainLane_move (s := s.modLane i Lane.unstaged) i
  rw [State.modLane_lane_self, State.modLane_time, afterStopCause_unstaged] at h
  exact h.of_modLane rfl

/-- R115: only from PRIME does a cause with destination STOP touch a route. -/
theorem drainLane_route_of_not_prime {i : LaneId} (h : (s.lane i).state ≠ .prime) (r : RouteId) :
    (s.drainLane i).route r = s.route r := by
  unfold State.drainLane
  cases hs : (s.lane i).state
  case prime => exact absurd hs h
  all_goals rfl

theorem drainLane_followed {i : LaneId} {r : RouteId} (hp : (s.lane i).state = .prime) (hr : (s.lane i).route = some r) :
    ReleaseFollowed ((s.drainLane i).holds r) (s.route r) ((s.drainLane i).route r) := by
  have h : s.drainLane i = s.primeToStop i := by rw [State.drainLane, hp]
  rw [h]
  exact leaveTo_followed hr _

/-- R115, R164: the routes see an unbinding as the one lane's leaving of PRIME, if it is there. -/
theorem unbindLane_primeLeft (i : LaneId) : PrimeLeft (fun k => k = i) s (s.unbindLane i) where
  others r h := by
    by_cases hp : (s.lane i).state = .prime
    · exact (unbindLane_move i).route_other r (h i rfl hp)
    · rw [unbindLane_eq]
      exact drainLane_route_of_not_prime (by rwa [State.modLane_lane_self]) r
  single r k hk hp hr _ := by
    subst hk
    exact drainLane_followed (s := s.modLane k Lane.unstaged) (by rwa [State.modLane_lane_self])
      (by rwa [State.modLane_lane_self])
  kept := (unbindLane_move i).route

/-- The routes see of the part before a leaving its lanes and routes alone, not its counter. -/
theorem primeLeft_clockTo {left : LaneId → Prop} {now : Time} {t : State} (h : PrimeLeft left (s.clockTo now) t) :
    PrimeLeft left s t := by
  obtain ⟨others, single, kept⟩ := h
  simp only [State.clockTo_lane, State.clockTo_route] at others single kept
  exact ⟨others, single, kept⟩

end Sys2Proof.Machine

namespace Sys2Proof.Proofs

open Sys2Proof.Machine Sys2Proof.Safety

/-- Settles O37: the report's codes are the part's constants, and the end of the item is all that happens. -/
theorem identify : Obligations.Identify := by
  unfold Obligations.Identify
  intro s ops rest h t
  exact ⟨by rw [exec_identify h, identifyReport_eq], finishItem_undo _ _⟩

/-- Settles O40, by the state and the selection. -/
theorem timebaseSelected : Obligations.TimebaseSelected := by
  unfold Obligations.TimebaseSelected
  intro s ops rest h selected
  have hsel : (byteAt ops 0 != 0) = decide (byteAt ops 0 ≠ 0) := Bool.eq_iff_iff.mpr (by rw [bne_iff_ne, decide_eq_true_iff])
  have hstate : s.time.state.select (decide (byteAt ops 0 ≠ 0)) = selected := by
    simp only [selected]
    cases s.time.state <;> cases decide (byteAt ops 0 ≠ 0) <;> rfl
  rw [exec_timebaseSelect h, State.selectSource, hsel, hstate]

/-- Settles O41: either both bytes name an action and both inputs are written, or the item is refused before the first. -/
theorem senseActionsWritten : Obligations.SenseActionsWritten := by
  unfold Obligations.SenseActionsWritten
  intro s ops rest h written t
  rw [exec_senseAction h]
  refine ⟨fun hbad => congrArg _ (senseActionItem_refused hbad), fun h0 h1 => ⟨congrArg _ (senseActionItem_done h0 h1), ?_⟩⟩
  rw [muted_iff]
  exact or_congr (written_latch h0 (s.input 0)) (written_latch h1 (s.input 1))

/-- Settles O53: the unbinding is a move of the one lane, and the route left from PRIME follows its remaining holds. -/
theorem laneUnbound : Obligations.LaneUnbound := by
  unfold Obligations.LaneUnbound
  intro s now ops rest h
  rw [exec_laneUnbind h]
  refine ⟨fun hbad => by rw [laneUnbindItem, laneOf_eq_none hbad], fun i hi => ?_⟩
  have hmove := unbindLane_move (s := s.clockTo now) i
  rw [State.clockTo_lmc, State.clockTo_lane] at hmove
  refine ⟨(s.clockTo now).unbindLane i, by rw [laneUnbindItem, laneOf_eq_some hi], hmove.lane, fun j hj => ?_,
    primeLeft_clockTo (unbindLane_primeLeft i), ?_⟩
  · rw [hmove.lane_ne hj, State.clockTo_lane]
  · simpa only [State.clockTo_lanes, State.clockTo_routes] using hmove.rest

end Sys2Proof.Proofs
end

section
/-! The changes of the part. Every act of a command is a sequence of a few kinds of change, each with the guard under which the
part makes it; the laws that every step keeps (O55 to O60) are then proved once for each kind of change, not for each
command. A change leaves the counter's value, the pins, the queue of commands, the store memory and the placement in flight
as they are; what touches these is an event (`Event`, below). -/

namespace Sys2Proof.Machine

open Sys2Proof.Safety

/-- R11, R15: the departure classes hold no more than their capacities. -/
structure TxFits (x : Transmitter) : Prop where
  ret : x.ret.length ≤ 4
  snd : (x.snd.map (·.slot)).Nodup
  src : x.src.length ≤ 4
  rep : x.rep.length ≤ 1

/-- A slot's record may be replaced by `g`: where the old one met the laws of spec/03 sections 3.3 and 3.5, so does the new. -/
structure SlotFits (i : SlotId) (g : GroupSlot) (s : State) : Prop where
  legal : slotLegal (s.slot i) = true → slotLegal g = true
  config : ∀ c, g.config = some c → (s.slot i).config = some c ∨ configInRange c = true
  tag : g.tag = (s.slot i).tag ∨ g.tag = 0 ∨ ∀ j, j ≠ i → (s.slot j).tag ≠ g.tag
  history : (s.slot i).history.length ≤ 8 → g.history.length ≤ 8

/-- R89: a slot that leads goes on leading, or no route that is not FREE stands on it. -/
def LeadKept (i : SlotId) (g : GroupSlot) (s : State) : Prop :=
  slotLegal (s.slot i) = true → (s.slot i).state = .leading →
    g.state = .leading ∨ ∀ r c, (s.route r).config = some c → (s.route r).state ≠ .free → c.slot ≠ i

/-- R92, R110, R111: a FREE route may be armed with the configuration `c` on a run of free pages. -/
structure Armable (r : RouteId) (c : RouteConfig) (s : State) : Prop where
  free : (s.route r).state = .free
  inside : c.firstPage + c.depth * c.slotPages ≤ s.store.pages.length
  pages : ∀ k, k < c.depth * c.slotPages → s.store.pages[c.firstPage + k]? = some none
  source : c.mode = .source → (s.slot c.slot).state = .leading
  depth : 8 ≤ c.depth ∧ c.depth ≤ 64 ∧ 2 ^ 16 % c.depth = 0

/-- R103, R112: the route's record and pages as it becomes FREE. -/
def State.giveBack (r : RouteId) (s : State) : State :=
  (match (s.route r).config with
    | some c => s.ownPages c.firstPage (c.depth * c.slotPages) none
    | none => s).modRoute r (fun t => { Route.unused with counters := t.counters })

/-- One change of the part, with its guard. -/
inductive Change : State → State → Prop
  | raise (s : State) (c : Condition) : Change s (s.raise c)
  /-- No law speaks of what changes here. -/
  | aside (s : State) (instantTaken tickTaken : Bool) (edges : Nat) (out : OutputPorts) (sense : Vector SenseInput 2)
      (burst : Option Burst) (reads : Vector (List Nat) 4) (phase : EnginePhase) (todo : List Item)
      (results : List ItemResult) :
      Change s { s with
        time := { s.time with instantTaken := instantTaken, tickTaken := tickTaken, monitorEdges := edges }
        out := out, sense := sense, store := { s.store with burst := burst, reads := reads }
        mgmt := { s.mgmt with phase := phase, todo := todo, results := results } }
  | queue (s : State) (q : List MgmtFrame) (fits : s.mgmt.queue.length ≤ 2 → q.length ≤ 2) :
      Change s { s with mgmt := { s.mgmt with queue := q } }
  | transmit (s : State) (tx : Transmitter) (fits : TxFits s.tx → TxFits tx) : Change s { s with tx := tx }
  | receive (s : State) (rx : Receiver) (fits : s.rx.ingress.length ≤ 4 → rx.ingress.length ≤ 4)
      (legal : ReceiverLegal s → ReceiverLegal { s with rx := rx }) : Change s { s with rx := rx }
  | slot (s : State) (i : SlotId) (g : GroupSlot) (fits : SlotFits i g s) (leads : LeadKept i g s) :
      Change s (s.setSlot i g)
  /-- R48, R105: the slot takes `g`, and its SOURCE routes become SINK routes. -/
  | regroup (s : State) (i : SlotId) (g : GroupSlot) (fits : SlotFits i g s) : Change s ((s.setSlot i g).turnRoutes i)
  | lane (s : State) (i : LaneId) (l : Lane) (legal : laneLegal (s.lane i) = true → laneLegal l = true)
      (bound : ∀ r, l.route = some r → (s.lane i).route = some r ∨ (s.route r).state ≠ .free) : Change s (s.setLane i l)
  /-- R98, R100: counters and stamp record of a route. -/
  | note (s : State) (r : RouteId) (nextSeq : Option Seq) (lastStamp : Option (Time × Nat)) (k : RouteCounters) :
      Change s (s.setRoute r { s.route r with nextSeq := nextSeq, lastStamp := lastStamp, counters := k })
  /-- R115, R118: the release point moves forward. -/
  | release (s : State) (r : RouteId) (rp q : Seq) (old : (s.route r).release = some rp) (ahead : 0 < seqDist rp q) :
      Change s (s.setRoute r ((s.route r).moveRelease q))
  | drain (s : State) (r : RouteId) (taking : (s.route r).taking = true) :
      Change s (s.setRoute r { s.route r with state := .draining })
  | free (s : State) (r : RouteId) (draining : (s.route r).state = .draining) (unbound : s.hasLane r = false)
      (unplaced : s.placing r = false) : Change s (s.giveBack r)
  | arm (s : State) (r : RouteId) (c : RouteConfig) (armable : Armable r c s) : Change s (s.armRoute r c)

/-- A sequence of changes. -/
abbrev Changes : State → State → Prop := Relation.ReflTransGen Change

theorem Change.changes {s t : State} (h : Change s t) : Changes s t := .single h

/-- Acts made one after another over a list. -/
theorem Changes.foldl {α : Type} {f : State → α → State} (h : ∀ s a, Changes s (f s a)) (l : List α) (s : State) :
    Changes s (l.foldl f s) := by
  induction l generalizing s with
  | nil => exact .refl
  | cons a rest ih => exact (h s a).trans (ih _)

variable {s : State}

/-! ### The engine -/

theorem offerReply_changes (f : MgmtFrame) (results : List ItemResult) : Changes s (s.offerReply f results) := by
  rcases offerReply_cases (s := s) f results with ⟨-, h⟩ | ⟨-, h⟩
  · rw [h]
  · rw [h]
    exact .single (.transmit s _ fun fits => ⟨fits.ret, fits.snd, fits.src, Nat.le_refl 1⟩)

theorem endExecution_changes (results : List ItemResult) : Changes s (s.endExecution results) := by
  have replied : ∃ rep, Changes s { s with tx := { s.tx with rep := rep } } ∧ s.endExecution results =
      { s with tx := { s.tx with rep := rep }, mgmt := { queue := s.mgmt.queue.tail, phase := .idle, todo := [], results := [] } } := by
    unfold State.endExecution
    cases hq : s.frameInHand with
    | none => exact ⟨s.tx.rep, .refl, rfl⟩
    | some f =>
      by_cases ha : f.addressed
      · simp only [ha, if_true]
        have hc := offerReply_changes (s := s) f results
        rcases offerReply_cases (s := s) f results with ⟨-, h⟩ | ⟨-, h⟩ <;> rw [h] at hc ⊢
        · exact ⟨s.tx.rep, hc, rfl⟩
        · exact ⟨_, hc, rfl⟩
      · simp only [ha]
        exact ⟨s.tx.rep, .refl, rfl⟩
  obtain ⟨rep, hc, h⟩ := replied
  rw [h]
  refine hc.trans ((Change.queue _ s.mgmt.queue.tail fun h => ?_).changes.trans (Change.aside _ _ _ _ _ _ _ _ _ _ _).changes)
  exact (List.tail_sublist _).length_le.trans h

theorem finishItem_changes (st : Status) (data : List Byte) : Changes s (s.finishItem st data) := by
  unfold State.finishItem
  cases hm : s.mgmt.todo with
  | nil => exact .refl
  | cons item rest =>
    dsimp only
    split
    · exact (Change.aside s _ _ _ _ _ _ _ _ _ _).changes
    · exact endExecution_changes _

theorem withdrawPeek_changes (r : RouteId) : Changes s (s.withdrawPeek r) := by
  unfold State.withdrawPeek
  split
  · split
    · exact finishItem_changes _ _
    · exact .refl
  · exact .refl

/-! ### Routes and the store -/

theorem arbitrate_changes : Changes s s.arbitrate := by
  obtain ⟨burst, reads, h⟩ := arbitrate_frame (s := s)
  rw [h]
  exact (Change.aside s _ _ _ _ _ _ _ _ _ _).changes

theorem recompute_changes (r : RouteId) : Changes s (s.recompute r) := by
  rcases recompute_cases (s := s) r with h | ⟨rp, q, hrp, -, hpos, -, h⟩
  · rw [h]
  · rw [h]
    exact (Change.release s r rp q hrp hpos).changes

theorem bump_changes (r : RouteId) (f : RouteCounters → RouteCounters) : Changes s (s.bump r f) :=
  (Change.note s r _ _ _).changes

theorem freeRoute_eq (r : RouteId) : s.freeRoute r = (s.giveBack r).withdrawPeek r := rfl

theorem tryFree_changes (r : RouteId) : Changes s (s.tryFree r) := by
  rcases tryFree_cases (s := s) r with ⟨hs, hl, hp, h⟩ | ⟨-, h⟩
  · rw [h, freeRoute_eq]
    exact (Change.free s r hs hl hp).changes.trans (withdrawPeek_changes r)
  · rw [h]

/-! ### Lanes -/

theorem modLane_changes (i : LaneId) (f : Lane → Lane) (legal : laneLegal (s.lane i) = true → laneLegal (f (s.lane i)) = true)
    (bound : ∀ r, (f (s.lane i)).route = some r → (s.lane i).route = some r ∨ (s.route r).state ≠ .free) :
    Changes s (s.modLane i f) :=
  (Change.lane s i _ legal bound).changes

theorem leaveTo_changes (i : LaneId) (l : Lane) (legal : laneLegal (s.lane i) = true → laneLegal l = true)
    (bound : ∀ r, l.route = some r → (s.lane i).route = some r ∨ (s.route r).state ≠ .free) : Changes s (s.leaveTo i l) := by
  unfold State.leaveTo
  split
  · exact (Change.lane s i l legal bound).changes.trans (recompute_changes _)
  · exact (Change.lane s i l legal bound).changes

end Sys2Proof.Machine
end

section
/-! The changes that the acts on lanes make (spec/08, spec/09). -/

namespace Sys2Proof.Machine

open Sys2Proof.Safety

variable {s : State}

/-! ### Records that stay legal (R128, R165) -/

section Legal

variable {l : Lane}

theorem laneLegal_rampDown (dest : Destination) (hs : l.state = .play) (h : laneLegal l = true) :
    laneLegal (l.rampDown dest) = true := by
  simp_all [laneLegal, Lane.rampDown]

theorem laneLegal_redirect (dest : Destination) (h : laneLegal l = true) : laneLegal (l.redirect dest) = true := by
  unfold Lane.redirect
  split
  · rename_i c m d hr
    cases hs : l.state <;> simp_all [laneLegal]
  · exact h

theorem laneLegal_cause (dest : Destination) (h : laneLegal l = true) : laneLegal (l.cause dest) = true := by
  unfold Lane.cause
  split
  · rename_i hs; exact laneLegal_rampDown dest hs h
  · exact laneLegal_redirect dest h
  · exact h

/-- R128: a lane that stops consuming and drops its staged change may wait. -/
theorem laneLegal_waiting (now : Time) (hr : l.route.isSome = true) :
    laneLegal { stoppedConsuming now l with state := .wait, staged := none } = true := by
  simp [laneLegal, stoppedConsuming, hr]

theorem laneLegal_stopped (now : Time) :
    laneLegal { stoppedConsuming now l with state := .stop, route := none, staged := none } = true := by
  simp [laneLegal, stoppedConsuming]

/-- R128, R165: a lane that is not in STOP is bound, and one in STOP, WAIT or PRIME holds no staged change. -/
theorem laneLegal_bound (h : laneLegal l = true) (hs : l.state ≠ .stop) : l.route.isSome = true := by
  cases hst : l.state <;> simp_all [laneLegal]

theorem laneLegal_unstaged_of_prime (h : laneLegal l = true) (hs : l.state = .prime) : l.staged = none := by
  simp_all [laneLegal]

/-- R128: only a lane in PLAY or RAMPDOWN has a playhead. -/
theorem laneLegal_playing (h : laneLegal l = true) (hp : l.playhead.isSome = true) :
    l.state = .play ∨ l.state = .rampdown := by
  cases hst : l.state <;> simp_all [laneLegal]

theorem laneLegal_applySettings (v : Settings) (h : laneLegal l = true) : laneLegal (l.applySettings v) = true := h

theorem laneLegal_unstaged (h : laneLegal l = true) : laneLegal l.unstaged = true := by
  cases hst : l.state <;> simp_all [laneLegal, Lane.unstaged]

theorem laneLegal_bindTo (r : RouteId) (hs : l.state = .stop ∨ l.state = .wait) (h : laneLegal l = true) :
    laneLegal (l.bindTo r) = true := by
  rcases hs with hs | hs <;> simp_all [laneLegal, Lane.bindTo]

theorem laneLegal_leave_wait (hs : l.state = .wait) (h : laneLegal l = true) :
    laneLegal { l with state := .stop, route := none } = true := by
  simp_all [laneLegal]

theorem laneLegal_staged (v : Option Settings) (hs : l.state = .play ∨ l.state = .rampdown) (h : laneLegal l = true) :
    laneLegal { l with staged := v } = true := by
  rcases hs with hs | hs <;> simp_all [laneLegal]

theorem laneLegal_prime (f : StoredFrame) (hs : l.state = .wait) (h : laneLegal l = true) :
    laneLegal (l.prime f) = true := by
  simp_all [laneLegal, Lane.prime]

theorem laneLegal_startPlay (t : Time) (hs : l.state = .prime) (h : laneLegal l = true) :
    laneLegal (l.startPlay t) = true := by
  simp_all [laneLegal, Lane.startPlay]

theorem laneLegal_enter (g : StoredFrame) (hp : l.playhead.isSome = true) (h : laneLegal l = true) :
    laneLegal (l.enter g) = true := by
  rcases laneLegal_playing h hp with hs | hs <;> simp_all [laneLegal, Lane.enter]

theorem laneLegal_conceal (c : RouteConfig) (f : CurrentFrame) (hp : l.playhead.isSome = true) (h : laneLegal l = true) :
    laneLegal (l.conceal c f) = true := by
  rcases laneLegal_playing h hp with hs | hs <;> simp_all [laneLegal, Lane.conceal]

theorem laneLegal_advance (d : Int) (h : laneLegal l = true) : laneLegal (l.advance d) = true := by
  cases hst : l.state <;> simp_all [laneLegal, Lane.advance]

theorem laneLegal_advanceRamp (h : laneLegal l = true) : laneLegal { l with ramp := l.ramp.map Ramp.advance } = true := by
  rcases hr : l.ramp with _ | _ | _ <;> cases hst : l.state <;> simp_all [laneLegal, Ramp.advance]

theorem laneLegal_rampInEnd {m : Nat} (hr : l.ramp = some (.up m)) (h : laneLegal l = true) :
    laneLegal { l with ramp := none } = true := by
  cases hst : l.state <;> simp_all [laneLegal]

theorem laneLegal_holdTimer (t : Option Time) (h : laneLegal l = true) : laneLegal { l with holdTimer := t } = true := h

end Legal

/-! ### Causes from outside -/

/-- A change of a lane's record that keeps its binding. -/
theorem modLane_changes_keep (i : LaneId) (f : Lane → Lane)
    (legal : laneLegal (s.lane i) = true → laneLegal (f (s.lane i)) = true) (kept : (f (s.lane i)).route = (s.lane i).route) :
    Changes s (s.modLane i f) :=
  modLane_changes i f legal fun _ h => .inl (kept ▸ h)

theorem cause_route (l : Lane) (dest : Destination) : (l.cause dest).route = l.route := by
  unfold Lane.cause Lane.redirect
  split
  · rfl
  · split <;> rfl
  · rfl

theorem primeToWait_changes {i : LaneId} (hs : (s.lane i).state = .prime) : Changes s (s.primeToWait i) := by
  unfold State.primeToWait
  rw [startHold_clearPlay]
  refine leaveTo_changes i _ (fun h => ?_) fun _ h => .inl h
  have := laneLegal_waiting s.time.lmc (laneLegal_bound h (by simp [hs]))
  simpa [stoppedConsuming, laneLegal_unstaged_of_prime h hs] using this

theorem primeToStop_changes {i : LaneId} (hs : (s.lane i).state = .prime) : Changes s (s.primeToStop i) := by
  unfold State.primeToStop
  rw [startHold_clearPlay]
  refine leaveTo_changes i _ (fun h => ?_) (by rintro _ ⟨⟩)
  have := laneLegal_stopped (l := s.lane i) s.time.lmc
  simpa [stoppedConsuming, laneLegal_unstaged_of_prime h hs] using this

theorem waitCause_changes (i : LaneId) : Changes s (s.waitCause i) := by
  unfold State.waitCause
  split
  · rename_i hs; exact primeToWait_changes hs
  · exact modLane_changes_keep i _ (laneLegal_cause _) (cause_route _ _)

theorem drainLane_changes (i : LaneId) : Changes s (s.drainLane i) := by
  unfold State.drainLane
  split
  · exact .refl
  · rename_i hs; exact modLane_changes i _ (laneLegal_leave_wait hs) (by rintro _ ⟨⟩)
  · rename_i hs; exact primeToStop_changes hs
  · exact modLane_changes_keep i _ (laneLegal_cause _) (cause_route _ _)
  · exact modLane_changes_keep i _ (laneLegal_cause _) (cause_route _ _)

theorem unbindLane_changes (i : LaneId) : Changes s (s.unbindLane i) := by
  rw [unbindLane_eq]
  exact (modLane_changes_keep i _ laneLegal_unstaged rfl).trans (drainLane_changes i)

theorem signalAcquire_changes (g : SlotId) : Changes s (s.signalAcquire g) := by
  refine Changes.foldl (fun s i => ?_) _ s
  split
  · split
    · exact waitCause_changes i
    · exact .refl
  · exact .refl

theorem muteLanes_changes : Changes s s.muteLanes := Changes.foldl (fun _ i => waitCause_changes i) _ s

theorem taking_ne_free {t : Route} (h : t.taking = true) : t.state ≠ .free := by
  intro hf; simp [Route.taking, hf] at h

/-- R115: a recomputation changes no route's state and no lane. -/
@[simp] theorem recompute_route_state (r q : RouteId) : ((s.recompute r).route q).state = (s.route q).state := by
  obtain ⟨_, _, h⟩ := recompute_frame (s := s) r
  rw [h, State.setRoute_route]; split
  · rename_i hq; rw [hq]
  · rfl

@[simp] theorem recompute_lane (r : RouteId) (i : LaneId) : (s.recompute r).lane i = s.lane i := by
  obtain ⟨_, _, h⟩ := recompute_frame (s := s) r
  rw [h]; rfl

theorem applyBinding_changes (i : LaneId) (v : Settings) (hv : ∀ r, v.route = some r → (s.route r).state ≠ .free) :
    Changes s (s.applyBinding i v) := by
  have bare : ∀ hs : (s.lane i).state = .stop ∨ (s.lane i).state = .wait,
      Changes s (s.modLane i (fun l => match v.route with
        | some r => (l.applySettings v).bindTo r
        | none => l.applySettings v)) := by
    intro hs
    cases hr : v.route with
    | none => exact modLane_changes_keep i _ (laneLegal_applySettings v) rfl
    | some r =>
      refine modLane_changes i _ (fun h => laneLegal_bindTo r hs h) ?_
      rintro _ ⟨⟩; exact .inr (hv r hr)
  unfold State.applyBinding
  split
  · rename_i hs; exact bare (.inl hs)
  · rename_i hs; exact bare (.inr hs)
  · rename_i hs
    have settled : Changes s (s.modLane i (Lane.applySettings v)) :=
      modLane_changes_keep i _ (laneLegal_applySettings v) rfl
    dsimp only
    split
    · rename_i r hr
      split
      · exact settled
      · have hprime : ((s.modLane i (Lane.applySettings v)).lane i).state = .prime := by simpa [Lane.applySettings] using hs
        have hmove := primeToWait_move (s := s.modLane i (Lane.applySettings v)) i
        refine (settled.trans (primeToWait_changes hprime)).trans (modLane_changes i _ (fun h => ?_) ?_)
        · exact laneLegal_bindTo r (.inr (by rw [hmove.lane])) h
        · rintro _ ⟨⟩
          refine .inr ?_
          rw [hmove.route r]
          exact hv r hr
    · exact settled
  · rename_i hs; exact modLane_changes_keep i _ (laneLegal_staged _ (.inl hs)) rfl
  · rename_i hs; exact modLane_changes_keep i _ (laneLegal_staged _ (.inr hs)) rfl

end Sys2Proof.Machine
end

section
/-! The changes that the end of a ramp makes. A staged change lands after the lane has left RAMPDOWN; since nothing before the
landing reads it, the lane may be taken to drop it first, so that every record between is legal (R165). -/

namespace Sys2Proof.Machine

open Sys2Proof.Safety

variable {s : State}

/-! ### What does not look at a staged change -/

/-- The part without the lane's staged change. -/
def State.unstage (i : LaneId) (s : State) : State := s.modLane i Lane.unstaged

theorem unstage_lane_route (i j : LaneId) : ((s.unstage i).lane j).route = (s.lane j).route := by
  unfold State.unstage; rw [State.modLane_lane]; split
  · rename_i h; rw [h]; rfl
  · rfl

theorem unstage_lane_consuming (i j : LaneId) : ((s.unstage i).lane j).consuming = (s.lane j).consuming := by
  unfold State.unstage; rw [State.modLane_lane]; split
  · rename_i h; rw [h]; rfl
  · rfl

theorem unstage_lane_hold (i j : LaneId) : ((s.unstage i).lane j).hold = (s.lane j).hold := by
  unfold State.unstage; rw [State.modLane_lane]; split
  · rename_i h; rw [h]; rfl
  · rfl

theorem unstage_holds (i : LaneId) (r : RouteId) : (s.unstage i).holds r = s.holds r := by
  simp only [State.holds, unstage_lane_route, unstage_lane_consuming, unstage_lane_hold]

theorem unstage_hasLane (i : LaneId) (r : RouteId) : (s.unstage i).hasLane r = s.hasLane r := by
  simp only [State.hasLane, unstage_lane_route]

theorem recompute_unstage (i : LaneId) (r : RouteId) : (s.recompute r).unstage i = (s.unstage i).recompute r := by
  have hr : (s.unstage i).route r = s.route r := rfl
  unfold State.recompute
  rw [unstage_holds, hr]
  split
  · rfl
  · split
    · rfl
    · split <;> rfl

theorem finishItem_unstage (i : LaneId) (st : Status) (data : List Byte) :
    (s.finishItem st data).unstage i = (s.unstage i).finishItem st data := by
  have hm : (s.unstage i).mgmt = s.mgmt := rfl
  unfold State.finishItem
  rw [hm]
  split
  · rfl
  · dsimp only
    split
    · rfl
    · unfold State.endExecution State.frameInHand
      rw [hm]
      cases s.mgmt.queue.head? with
      | none => rfl
      | some f =>
        dsimp only
        split
        · have htx : (s.unstage i).tx = s.tx := rfl
          unfold State.offerReply
          rw [htx]
          split <;> rfl
        · rfl

theorem withdrawPeek_unstage (i : LaneId) (r : RouteId) : (s.withdrawPeek r).unstage i = (s.unstage i).withdrawPeek r := by
  have hm : (s.unstage i).mgmt = s.mgmt := rfl
  unfold State.withdrawPeek
  rw [hm]
  split
  · split
    · exact finishItem_unstage i _ _
    · rfl
  · rfl

theorem tryFree_unstage (i : LaneId) (r : RouteId) : (s.tryFree r).unstage i = (s.unstage i).tryFree r := by
  have hr : (s.unstage i).route r = s.route r := rfl
  have hp : (s.unstage i).placing r = s.placing r := rfl
  unfold State.tryFree
  rw [unstage_hasLane, hr, hp]
  split
  · rw [freeRoute_eq, withdrawPeek_unstage, freeRoute_eq]
    congr 1
    unfold State.giveBack
    rw [hr]
    split <;> rfl
  · rfl

theorem leaveTo_unstage (i : LaneId) (l : Lane) : (s.leaveTo i l).unstage i = (s.unstage i).leaveTo i l.unstaged := by
  have hset : (s.setLane i l).unstage i = (s.unstage i).setLane i l.unstaged := by
    simp [State.unstage, State.modLane, State.setLane, State.lane]
  unfold State.leaveTo
  rw [unstage_lane_route]
  split
  · rw [recompute_unstage, hset]
  · exact hset

/-! ### The end of a ramp -/

/-- R141: the lane leaves RAMPDOWN for its destination, before a staged change lands. -/
def State.leaveRamp (i : LaneId) (dest : Destination) (s : State) : State :=
  let l := stoppedConsuming s.time.lmc (s.lane i)
  match dest with
  | .wait => s.leaveTo i { l with state := .wait }
  | .stop =>
    let s' := s.leaveTo i { l with state := .stop, route := none }
    match (s.lane i).route with
    | some r => s'.tryFree r
    | none => s'

/-- R163: a change lands on a lane that holds no staged change. -/
def State.landSettings (i : LaneId) (v : Settings) (s : State) : State :=
  match v.route with
  | some r => (s.modLane i (Lane.applySettings v)).landRoute i r
  | none => s.modLane i (Lane.applySettings v)

theorem leaveRamp_unstage (i : LaneId) (dest : Destination) :
    (s.leaveRamp i dest).unstage i = (s.unstage i).leaveRamp i dest := by
  have hl : (s.unstage i).lane i = (s.lane i).unstaged := by simp [State.unstage]
  have ht : (s.unstage i).time = s.time := rfl
  unfold State.leaveRamp
  rw [hl, ht]
  cases dest with
  | wait => exact leaveTo_unstage i _
  | stop =>
    have hr : (s.lane i).unstaged.route = (s.lane i).route := rfl
    dsimp only
    rw [hr]
    split
    · rw [tryFree_unstage, leaveTo_unstage]; rfl
    · exact leaveTo_unstage i _

theorem tryFree_lane (r : RouteId) (j : LaneId) : (s.tryFree r).lane j = s.lane j := by
  have h : (s.tryFree r).lanes = s.lanes := by
    rcases tryFree_cases (s := s) r with ⟨-, -, -, h⟩ | ⟨-, h⟩
    · rw [h]; exact (freeRoute_spec r).2.2.2.2.1
    · rw [h]
  simp only [State.lane, h]

/-- R141: the lane's record at its destination. -/
def Lane.landed (now : Time) (dest : Destination) (l : Lane) : Lane :=
  match dest with
  | .wait => { stoppedConsuming now l with state := .wait }
  | .stop => { stoppedConsuming now l with state := .stop, route := none }

theorem leaveRamp_lane (i : LaneId) (dest : Destination) :
    (s.leaveRamp i dest).lane i = (s.lane i).landed s.time.lmc dest := by
  unfold State.leaveRamp
  cases dest with
  | wait => exact (leaveTo_move i _).lane
  | stop =>
    dsimp only
    split
    · rw [tryFree_lane]; exact (leaveTo_move i _).lane
    · exact (leaveTo_move i _).lane

/-- R141, R163: a ramp-down's end is the leaving and then the landing; a staged change may be dropped before both. -/
theorem endRamp_eq (i : LaneId) (dest : Destination) :
    s.endRamp i dest = match (s.lane i).staged with
      | none => s.leaveRamp i dest
      | some v => ((s.unstage i).leaveRamp i dest).landSettings i v := by
  have h : s.endRamp i dest = (s.leaveRamp i dest).landAtRampEnd i := by
    unfold State.endRamp State.leaveRamp
    rw [startHold_clearPlay] <;> cases dest <;> rfl
  have hst : ((s.leaveRamp i dest).lane i).staged = (s.lane i).staged := by
    rw [leaveRamp_lane]; cases dest <;> rfl
  rw [h, State.landAtRampEnd, hst]
  cases (s.lane i).staged with
  | none => rfl
  | some v =>
    have hmod : (s.leaveRamp i dest).modLane i (fun l => { l.applySettings v with staged := none }) =
        ((s.unstage i).leaveRamp i dest).modLane i (Lane.applySettings v) := by
      rw [← leaveRamp_unstage]
      simp [State.unstage, State.modLane, State.setLane, State.lane, Lane.unstaged, Lane.applySettings]
    dsimp only
    rw [hmod, State.landSettings] <;> cases v.route <;> rfl

theorem leaveRamp_changes {i : LaneId} (hs : (s.lane i).state = .rampdown) (hst : (s.lane i).staged = none)
    (dest : Destination) : Changes s (s.leaveRamp i dest) := by
  have toStop : Changes s (s.leaveTo i { stoppedConsuming s.time.lmc (s.lane i) with state := .stop, route := none }) := by
    refine leaveTo_changes i _ (fun _ => ?_) (by rintro _ ⟨⟩)
    have := laneLegal_stopped (l := s.lane i) s.time.lmc
    simpa [stoppedConsuming, hst] using this
  unfold State.leaveRamp
  cases dest with
  | wait =>
    refine leaveTo_changes i _ (fun h => ?_) fun _ h => .inl h
    have := laneLegal_waiting s.time.lmc (laneLegal_bound h (by simp [hs]))
    simpa [stoppedConsuming, hst] using this
  | stop =>
    dsimp only
    split
    · exact toStop.trans (tryFree_changes _)
    · exact toStop

theorem landSettings_changes {i : LaneId} (hs : (s.lane i).state = .stop ∨ (s.lane i).state = .wait) (v : Settings) :
    Changes s (s.landSettings i v) := by
  have written : Changes s (s.modLane i (Lane.applySettings v)) :=
    modLane_changes_keep i _ (laneLegal_applySettings v) rfl
  unfold State.landSettings State.landRoute
  split
  · rename_i r _
    split
    · rename_i ht
      refine written.trans (modLane_changes i _ (fun h => laneLegal_bindTo r ?_ h) ?_)
      · simpa [Lane.applySettings] using hs
      · rintro _ ⟨⟩; exact .inr (taking_ne_free ht)
    · exact written
  · exact written

theorem endRamp_changes {i : LaneId} (hs : (s.lane i).state = .rampdown) (dest : Destination) :
    Changes s (s.endRamp i dest) := by
  rw [endRamp_eq]
  split
  · rename_i hst; exact leaveRamp_changes hs hst dest
  · rename_i v hst
    have hl : (s.unstage i).lane i = (s.lane i).unstaged := by simp [State.unstage]
    refine (modLane_changes_keep i Lane.unstaged laneLegal_unstaged rfl).trans
      ((leaveRamp_changes (s := s.unstage i) (by rw [hl]; exact hs) (by rw [hl]; rfl) dest).trans
        (landSettings_changes ?_ v))
    rw [leaveRamp_lane]
    cases dest
    · exact .inr rfl
    · exact .inl rfl

theorem rampEndAct_changes (i : LaneId) : Changes s (s.rampEndAct i) := by
  unfold State.rampEndAct
  split
  · rename_i hs _
    split
    · exact endRamp_changes hs _
    · exact .refl
  · exact .refl

theorem rampInEndAct_changes (i : LaneId) : Changes s (s.rampInEndAct i) := by
  unfold State.rampInEndAct
  split
  · rename_i m hr
    split
    · exact modLane_changes_keep i _ (laneLegal_rampInEnd hr) rfl
    · exact .refl
  · exact .refl

theorem endRamps_changes : Changes s s.endRamps := Changes.foldl (fun _ i => rampEndAct_changes i) _ s

/-! ### Sense inputs and hold timers -/

theorem setInput_changes (i : InputId) (x : SenseInput) : Changes s (s.setInput i x) :=
  .single (.aside s _ _ _ _ (s.sense.set i.val x i.isLt) _ _ _ _ _)

theorem senseAcceptAct_changes (i : InputId) : Changes s (s.senseAcceptAct i) := by
  unfold State.senseAcceptAct
  dsimp only
  split
  · exact .refl
  · split
    · exact setInput_changes i _
    · have raised : ∀ x, Changes s ((s.setInput i x).raise (senseCondition i)) := fun x =>
        (setInput_changes i x).tail (.raise _ _)
      split
      · exact (raised _).trans muteLanes_changes
      · exact raised _

theorem expireHold_changes (i : LaneId) : Changes s (s.expireHold i) := by
  unfold State.expireHold
  split
  · exact modLane_changes_keep i _ (laneLegal_holdTimer none) rfl
  · exact .refl

end Sys2Proof.Machine
end

section
/-! The changes that the group timing unit makes (spec/04, spec/05): soundings, returns, results, the lock machine; and the
follow-up acts. -/

namespace Sys2Proof.Machine

open Sys2Proof.Safety

variable {s : State}

/-! ### Records that stay legal (R40, R65) -/

/-- A slot's record goes from `g` to `g'`, its tag and configuration kept, and nothing that R40, R65 or R89 asks lost. -/
structure GroupSlot.Advances (g g' : GroupSlot) : Prop where
  legal : slotLegal g = true → slotLegal g' = true
  config : g'.config = g.config
  tag : g'.tag = g.tag
  history : g.history.length ≤ 8 → g'.history.length ≤ 8
  leading : slotLegal g = true → g.state = .leading → g'.state = .leading

theorem GroupSlot.Advances.trans {g g' g'' : GroupSlot} (h : g.Advances g') (h' : g'.Advances g'') : g.Advances g'' where
  legal hl := h'.legal (h.legal hl)
  config := h'.config.trans h.config
  tag := h'.tag.trans h.tag
  history hl := h'.history (h.history hl)
  leading hl hs := h'.leading (h.legal hl) (h.leading hl hs)

/-- What slotLegal looks at is kept, and the delay history with it. -/
theorem GroupSlot.Advances.of_kept {g g' : GroupSlot} (hr : g'.role = g.role) (hs : g'.state = g.state) (hm : g'.map = g.map)
    (hc : g'.config = g.config) (ht : g'.tag = g.tag) (hh : g'.history = g.history) : g.Advances g' where
  legal h := by simpa [slotLegal, hr, hs, hm] using h
  config := hc
  tag := ht
  history h := by rw [hh]; exact h
  leading _ h := hs.trans h

theorem setSlot_changes (i : SlotId) (g : GroupSlot) (h : (s.slot i).Advances g) : Changes s (s.setSlot i g) :=
  .single (.slot s i g ⟨h.legal, fun _ hc => .inl (h.config ▸ hc), .inl h.tag, h.history⟩
    fun hl hs => .inl (h.leading hl hs))

theorem modSlot_changes (i : SlotId) (f : GroupSlot → GroupSlot) (h : (s.slot i).Advances (f (s.slot i))) :
    Changes s (s.modSlot i f) := setSlot_changes i _ h

/-- A change of a slot's counts, record or flags alone. -/
theorem modSlot_changes_kept (i : SlotId) (f : GroupSlot → GroupSlot) (hr : (f (s.slot i)).role = (s.slot i).role)
    (hs : (f (s.slot i)).state = (s.slot i).state) (hm : (f (s.slot i)).map = (s.slot i).map)
    (hc : (f (s.slot i)).config = (s.slot i).config) (ht : (f (s.slot i)).tag = (s.slot i).tag)
    (hh : (f (s.slot i)).history = (s.slot i).history) : Changes s (s.modSlot i f) :=
  modSlot_changes i f (.of_kept hr hs hm hc ht hh)

section Legal

variable {g : GroupSlot}

/-- R40: in ACQUIRE, TRACK, LOCKED and HOLDOVER a legal slot is a follower. -/
theorem slotLegal_follower (h : slotLegal g = true)
    (hs : g.state = .acquire ∨ g.state = .track ∨ g.state = .locked ∨ g.state = .holdover) : g.role = some .follower := by
  unfold slotLegal at h
  rcases hs with hs | hs | hs | hs <;> rw [hs] at h <;> split at h <;> simp_all

/-- R40: a follower in TRACK, LOCKED or HOLDOVER has a map with a trim in range. -/
theorem slotLegal_mapped (hr : g.role = some .follower) (hs : g.state = .track ∨ g.state = .locked ∨ g.state = .holdover) :
    slotLegal g = true ↔ ∃ m, g.map = some m ∧ trimInRange m.trim = true := by
  unfold slotLegal
  rcases hs with hs | hs | hs <;> rw [hr, hs] <;> cases g.map <;> simp

theorem slotLegal_acquire (hr : g.role = some .follower) (hs : g.state = .acquire) :
    slotLegal g = true ↔ g.map = none := by
  unfold slotLegal
  rw [hr, hs]
  cases g.map <;> simp

theorem trimInRange_trimOf (i : Int) : trimInRange (trimOf i) = true := by
  simp [trimInRange, trimOf_mem i]

/-- R80, R82: a slot with a map goes between TRACK, LOCKED and HOLDOVER. -/
theorem advances_enter {st st' : GroupState} (h : g.state = st) (hst : st = .track ∨ st = .locked ∨ st = .holdover)
    (hst' : st' = .track ∨ st' = .locked ∨ st' = .holdover) : g.Advances (g.enterState st') where
  legal hl := by
    have hr := slotLegal_follower hl (by rw [h]; exact .inr hst)
    rw [slotLegal_mapped hr (by rw [h]; exact hst)] at hl
    rw [slotLegal_mapped (g := g.enterState st') hr hst']
    exact hl
  config := rfl
  tag := rfl
  history := id
  leading _ hs := by rw [h] at hs; rcases hst with rfl | rfl | rfl <;> cases hs

/-- R78, R81: a slot falls to ACQUIRE, its map removed. -/
theorem advances_fall (h : g.state = .track ∨ g.state = .locked ∨ g.state = .holdover) :
    g.Advances { g.enterState .acquire with map := none } where
  legal hl := by
    have hr := slotLegal_follower hl (.inr h)
    exact (slotLegal_acquire (g := { g.enterState .acquire with map := none }) hr rfl).mpr rfl
  config := rfl
  tag := rfl
  history := id
  leading _ hs := by rw [hs] at h; simp at h

theorem advances_lose : g.Advances g.lose := .of_kept rfl rfl rfl rfl rfl rfl

theorem advances_complete : g.Advances g.complete := by
  unfold GroupSlot.complete
  dsimp only
  split
  · rename_i hs
    have ended : g.Advances { g with record := none, lost := 0, lossDue := none } := .of_kept rfl rfl rfl rfl rfl rfl
    exact (ended.trans (advances_enter hs (.inr (.inr rfl)) (.inl rfl))).trans (.of_kept rfl rfl rfl rfl rfl rfl)
  · exact .of_kept rfl rfl rfl rfl rfl rfl

theorem historyWith_length (p : Nat) {h : List Nat} (hh : h.length ≤ 8) : (historyWith p h).length ≤ 8 := by
  unfold historyWith
  split
  · simp; omega
  · simp; omega

/-- R75: the first accepted sample in ACQUIRE builds a map. -/
theorem advances_buildMap (x : Stamps) (hs : g.state = .acquire) : g.Advances (g.buildMap x) where
  legal hl := by
    have hr := slotLegal_follower hl (.inl hs)
    exact (slotLegal_mapped (g := g.buildMap x) hr (.inl rfl)).mpr ⟨_, rfl, trimInRange_trimOf _⟩
  config := rfl
  tag := rfl
  history := id
  leading _ h := by rw [hs] at h; cases h

theorem advances_takeSample (c : SlotConfig) (x : Stamps) : g.Advances (g.takeSample c x) := by
  have pushed : g.Advances { g with history := pushHistory g.history x.path } :=
    { legal := id, config := rfl, tag := rfl, leading := fun _ h => h
      history := fun h => by simpa [pushHistory_eq] using historyWith_length x.path h }
  refine pushed.trans ?_
  unfold GroupSlot.takeSample
  dsimp only
  split
  · exact .of_kept rfl rfl rfl rfl rfl rfl
  · split
    · rename_i hs; exact advances_buildMap x hs
    · exact .of_kept rfl rfl rfl rfl rfl rfl
    · exact .of_kept rfl rfl rfl rfl rfl rfl
    · exact .of_kept rfl rfl rfl rfl rfl rfl

/-- R71 to R73: the discipline gives a map in TRACK or LOCKED a trim in range. -/
theorem advances_discipline (c : SlotConfig) (e : Int) (t4 : Time) (hs : g.state = .track ∨ g.state = .locked) :
    g.Advances (g.discipline c e t4) where
  legal hl := by
    have hs' : g.state = .track ∨ g.state = .locked ∨ g.state = .holdover := hs.elim .inl fun h => .inr (.inl h)
    have hr := slotLegal_follower hl (.inr hs')
    obtain ⟨m, hm, -⟩ := (slotLegal_mapped hr hs').mp hl
    exact (slotLegal_mapped (g := g.discipline c e t4) hr hs').mpr
      ⟨_, by simp [GroupSlot.discipline, hm]; rfl, trimInRange_trimOf _⟩
  config := rfl
  tag := rfl
  history := id
  leading _ h := h

end Legal

/-! ### Soundings (R52 to R58) -/

/-- R15: a SOUNDING joins its class where the slot has none there. -/
theorem offerSounding_changes (e : SoundingEntry) (h : s.tx.snd.any (fun x => x.slot == e.slot) = false) :
    Changes s { s with tx := { s.tx with snd := s.tx.snd ++ [e] } } := by
  refine .single (.transmit s _ fun fits => ⟨fits.ret, ?_, fits.src, fits.rep⟩)
  have hn : ∀ x ∈ s.tx.snd, x.slot ≠ e.slot := fun x hx hxe => by
    simp only [List.any_eq_false, beq_iff_eq] at h; exact h x hx hxe
  rw [List.map_append, List.nodup_append]
  refine ⟨fits.snd, by simp, ?_⟩
  rintro a ha b hb rfl
  obtain ⟨x, hx, rfl⟩ := List.mem_map.mp ha
  simp only [List.map_cons, List.map_nil, List.mem_singleton] at hb
  exact hn x hx hb

theorem makeSounding_changes (i : SlotId) : Changes s (s.makeSounding i) := by
  unfold State.makeSounding
  dsimp only
  split
  · exact .refl
  · have queued : Changes s (s.setSlot i
        { s.slot i with record := some (.queued (s.slot i).seqCounter), seqCounter := (s.slot i).seqCounter + 1 }) :=
      setSlot_changes i _ (.of_kept rfl rfl rfl rfl rfl rfl)
    split
    · exact queued
    · rename_i h
      exact queued.trans (offerSounding_changes _ (by simpa using h))

theorem soundingDue_changes (i : SlotId) : Changes s (s.soundingDue i) := by
  unfold State.soundingDue
  split
  · exact .refl
  · split
    · exact makeSounding_changes i
    · exact .refl
    · exact (modSlot_changes_kept i _ rfl rfl rfl rfl rfl rfl).trans (makeSounding_changes i)

theorem withdrawSounding_changes (i : SlotId) : Changes s (s.withdrawSounding i) :=
  .single (.transmit s _ fun fits =>
    ⟨fits.ret, fits.snd.sublist (List.filter_sublist.map _), fits.src, fits.rep⟩)

theorem soundingEnded_changes (i : SlotId) (t1 : Time) : Changes s (s.soundingEnded i t1) := by
  unfold State.soundingEnded
  split
  · split
    · split
      · exact soundingDue_changes i
      · exact modSlot_changes_kept i _ rfl rfl rfl rfl rfl rfl
    · exact .refl
  · exact .refl

theorem timeoutAct_changes (i : SlotId) : Changes s (s.timeoutAct i) := by
  unfold State.timeoutAct
  split
  · split
    · exact (modSlot_changes_kept i _ rfl rfl rfl rfl rfl rfl).trans (soundingEnded_changes i _)
    · exact .refl
  · exact .refl

theorem streamDueAct_changes (i : SlotId) : Changes s (s.streamDueAct i) := by
  unfold State.streamDueAct
  split
  · exact (modSlot_changes_kept i _ rfl rfl rfl rfl rfl rfl).trans (soundingDue_changes i)
  · exact .refl

theorem tickAct_changes (order : List SlotId) : Changes s (s.tickAct order) := by
  unfold State.tickAct
  split
  · exact .refl
  · refine Relation.ReflTransGen.trans (.single (.aside s _ true _ _ _ _ _ _ _ _)) (Changes.foldl (fun s i => ?_) _ _)
    split
    · exact soundingDue_changes i
    · exact .refl

/-! ### The lock machine (R74 to R84) -/

theorem holdoverAct_changes (i : SlotId) : Changes s (s.holdoverAct i) := by
  unfold State.holdoverAct
  split
  · rename_i h
    refine Relation.ReflTransGen.tail (modSlot_changes i _ ?_) (.raise _ _)
    refine .trans (advances_enter rfl ?_ (.inr (.inr rfl))) (.of_kept rfl rfl rfl rfl rfl rfl)
    exact h.2.elim .inl fun h => .inr (.inl h)
  · exact .refl

theorem leaderLostAct_changes (i : SlotId) : Changes s (s.leaderLostAct i) := by
  unfold State.leaderLostAct
  split
  · rename_i h
    refine Relation.ReflTransGen.trans (.tail (modSlot_changes i _ ?_) (.raise _ _)) (signalAcquire_changes i)
    exact .trans (advances_fall (.inr (.inr h.2))) (.of_kept rfl rfl rfl rfl rfl rfl)
  · exact .refl

theorem windowTest_changes (i : SlotId) (c : SlotConfig) (e : Int) : Changes s (s.windowTest i c e) := by
  have counted : Changes s (s.modSlot i (fun g => g.countRun (isInside c e))) := by
    refine modSlot_changes i _ ?_
    unfold GroupSlot.countRun
    split <;> exact .of_kept rfl rfl rfl rfl rfl rfl
  unfold State.windowTest
  dsimp only
  split
  · rename_i h
    exact (counted.trans (modSlot_changes i _ (advances_enter h.1 (.inl rfl) (.inr (.inl rfl))))).tail (.raise _ _)
  · split
    · rename_i h
      exact (counted.trans (modSlot_changes i _ (advances_enter h.1 (.inr (.inl rfl)) (.inl rfl)))).tail (.raise _ _)
    · exact counted

theorem grossFall_changes {i : SlotId} (h : (s.slot i).state = .track ∨ (s.slot i).state = .locked) :
    Changes s (s.grossFall i) := by
  have hf : (s.slot i).state = .track ∨ (s.slot i).state = .locked ∨ (s.slot i).state = .holdover := h.imp_right .inl
  have fell : ∀ u : State, u.slot i = s.slot i →
      Changes u (u.modSlot i (fun g => { g.enterState .acquire with map := none })) := fun u hu =>
    modSlot_changes i _ (by rw [hu]; exact advances_fall hf)
  unfold State.grossFall
  dsimp only
  split
  · exact (Relation.ReflTransGen.head (.raise s .lockLost) (fell (s.raise .lockLost) rfl)).trans (signalAcquire_changes i)
  · exact (fell s rfl).trans (signalAcquire_changes i)

theorem publishResult_changes (i : SlotId) (r : FilterResult) : Changes s (s.publishResult i r) :=
  (modSlot_changes_kept i _ rfl rfl rfl rfl rfl rfl).tail (.raise _ _)

theorem handleResult_changes {i : SlotId} (c : SlotConfig) (e : Int) (t4 : Time)
    (h : (s.slot i).state = .track ∨ (s.slot i).state = .locked) : Changes s (s.handleResult i c e t4) := by
  unfold State.handleResult
  split
  · exact grossFall_changes h
  · exact (modSlot_changes i _ (advances_discipline c e t4 h)).trans (windowTest_changes i c e)

/-! ### The release of the entry in hand (R7, R27) -/

/-- R8: where the entry in hand, or the oldest, is COMPLETE and not the route unit's, its release keeps the queue's law. -/
theorem releaseHand_legal (hh : s.rx.hand ≠ some .routeUnit)
    (hc : ∀ e rest, s.rx.ingress = e :: rest → e.phase = .complete) (h : ReceiverLegal s) :
    ReceiverLegal s.releaseHand where
  outside ho e he := h.outside ho e (List.mem_of_mem_tail he)
  inside hi := by
    obtain ⟨pre, e, hq, hr, hall⟩ := h.inside hi
    cases pre with
    | nil => exact absurd (hc e [] hq) (by rw [hr]; decide)
    | cons x rest =>
      exact ⟨rest, e, by simp [State.releaseHand, hq], hr, fun y hy => hall y (List.mem_cons_of_mem _ hy)⟩
  hand := by rintro o ⟨⟩
  placing := by
    have hp : ¬ s.store.placement.isSome = true := fun hp => hh (h.placing.mpr hp)
    exact ⟨by rintro ⟨⟩, fun h' => absurd h' hp⟩

theorem releaseHand_changes (hh : s.rx.hand ≠ some .routeUnit)
    (hc : ReceiverLegal s → ∀ e rest, s.rx.ingress = e :: rest → e.phase = .complete) : Changes s s.releaseHand :=
  .single (.receive s _ (fun h => (List.tail_sublist _).length_le.trans h)
    fun h => releaseHand_legal hh (hc h) h)

/-- R8: an entry in hand is COMPLETE. -/
theorem releaseHand_changes_of_hand {o : Owner} (ho : s.rx.hand = some o) (hne : o ≠ .routeUnit) :
    Changes s s.releaseHand := by
  refine releaseHand_changes (by rw [ho]; simpa using hne) fun h e rest hq => ?_
  obtain ⟨e', rest', hq', hc⟩ := h.hand o ho
  rw [hq] at hq'
  injection hq' with he _
  rw [he]; exact hc

theorem releaseReturn_changes (i : SlotId) : Changes s (s.releaseReturn i) := by
  unfold State.releaseReturn
  split
  · rename_i h; exact releaseHand_changes_of_hand h (by simp)
  · exact .refl

theorem filterBlockAct_changes (i : SlotId) : Changes s (s.filterBlockAct i) := by
  unfold State.filterBlockAct
  split
  · split
    · rename_i h
      refine ((publishResult_changes i _).trans (handleResult_changes _ _ _ ?_)).trans (releaseReturn_changes i)
      simpa [State.publishResult, GroupSlot.restartFilter] using h
    · exact .refl
  · exact .refl

/-! ### Follow-up acts -/

/-- The follow-up acts but a placement's completion are changes. -/
theorem settleUnplaced_changes : Changes s s.settleUnplaced := by
  unfold State.settleUnplaced
  have blocks := Changes.foldl (fun s i => filterBlockAct_changes (s := s) i) allSlots s
  have losses := fun u : State => Changes.foldl
    (fun s i => (holdoverAct_changes (s := s) i).trans (leaderLostAct_changes i)) allSlots u
  have ramps := fun u : State => Changes.foldl (fun s i => rampInEndAct_changes (s := s) i) allLanes u
  exact (((blocks.trans (losses _)).trans (ramps _)).trans endRamps_changes).trans
    ((senseAcceptAct_changes 0).trans (senseAcceptAct_changes 1))

end Sys2Proof.Machine
end

section
/-! The changes that an output instant makes (spec/08, spec/09), and those of the receiver and the transmitter (spec/01). -/

namespace Sys2Proof.Machine

open Sys2Proof.Safety

variable {s : State}

/-! ### Lanes at an output instant -/

theorem latchPort_changes (i : LaneId) (p : Pair) : Changes s (s.latchPort i p) :=
  .single (.aside s _ _ _ (s.latchPort i p).out _ _ _ _ _ _)

theorem setReads_changes (i : LaneId) (reads : List Nat) :
    Changes s { s with store := { s.store with reads := s.store.reads.set i.val reads i.isLt } } :=
  .single (.aside s _ _ _ _ _ _ (s.store.reads.set i.val reads i.isLt) _ _ _)

theorem handSilence_changes (i : LaneId) : Changes s (s.handSilence i) :=
  (setReads_changes i []).trans (latchPort_changes i _)

theorem fetchAndHand_changes (i : LaneId) : Changes s (s.fetchAndHand i) := by
  unfold State.fetchAndHand
  exact (setReads_changes i _).trans ((latchPort_changes i _).trans (modLane_changes_keep i _ laneLegal_advanceRamp rfl))

theorem waitTurn_changes {i : LaneId} (hs : (s.lane i).state = .wait) : Changes s (s.waitTurn i) := by
  unfold State.waitTurn
  split
  · rename_i f _
    refine (modLane_changes_keep i (Lane.prime f) (laneLegal_prime f hs) rfl).trans ?_
    unfold State.recomputeLane
    split
    · exact recompute_changes _
    · exact .refl
  · exact .refl

/-- R162: a staged change that lands keeps the lane's binding and playhead. -/
theorem landAtEntry_changes (i : LaneId) :
    Changes s (s.landAtEntry i) ∧ ((s.landAtEntry i).lane i).playhead = (s.lane i).playhead := by
  have written : ∀ v : Settings, (s.lane i).state = .play →
      Changes s (s.modLane i (fun l => { l.applySettings v with staged := none })) := fun v _ =>
    modLane_changes_keep i _ (fun h => laneLegal_unstaged (laneLegal_applySettings v h)) rfl
  unfold State.landAtEntry
  split
  · rename_i v hs _
    split
    · split
      · refine ⟨modLane_changes_keep i _ (fun h => ?_) rfl, by simp; rfl⟩
        exact laneLegal_staged _ (.inr rfl) (laneLegal_rampDown .wait hs (laneLegal_applySettings v h))
      · exact ⟨written v hs, by simp; rfl⟩
    · exact ⟨written v hs, by simp; rfl⟩
  · exact ⟨.refl, rfl⟩

theorem concealNext_changes {i : LaneId} (hp : (s.lane i).playhead.isSome = true) (r : RouteId) (c : RouteConfig)
    (f : CurrentFrame) : Changes s (s.concealNext i r c f) :=
  (((modLane_changes_keep i _ (laneLegal_conceal c f hp) rfl).trans (bump_changes r _)).tail (.raise _ .concealed)).trans
    (recompute_changes r)

theorem rampDown_changes {i : LaneId} (hs : (s.lane i).state = .play) : Changes s (s.modLane i (Lane.rampDown .wait)) :=
  modLane_changes_keep i _ (laneLegal_rampDown .wait hs) rfl

theorem frameEntry_changes {i : LaneId} (hp : (s.lane i).playhead.isSome = true) : Changes s (s.frameEntry i) := by
  obtain ⟨landed, hkept⟩ := landAtEntry_changes (s := s) i
  unfold State.frameEntry
  generalize s.landAtEntry i = u at landed hkept
  refine landed.trans ?_
  have hpu : (u.lane i).playhead.isSome = true := hkept ▸ hp
  have hpd : ((u.modLane i (Lane.rampDown .wait)).lane i).playhead.isSome = true := by simpa [Lane.rampDown] using hpu
  dsimp only
  split
  · rename_i r c f _ _
    split
    · exact (modLane_changes_keep i _ (laneLegal_enter _ hpu) rfl).trans (recompute_changes r)
    · rename_i hs; exact (rampDown_changes hs).trans (concealNext_changes hpd r c f)
    · rename_i hs
      split
      · exact concealNext_changes hpu r c f
      · exact ((rampDown_changes hs).tail (.raise _ .starved)).trans (concealNext_changes (by simpa using hpd) r c f)
    · exact concealNext_changes hpu r c f
  · exact .refl

theorem realign_changes {i : LaneId} (hs : (s.lane i).state = .play) : Changes s (s.realign i) :=
  (rampDown_changes hs).tail (.raise _ .realigned)

theorem pastEnd_playhead {l : Lane} (h : l.pastEnd = true) : l.playhead.isSome = true := by
  obtain ⟨_, _, hp, -⟩ := (pastEnd_iff l).mp h
  rw [hp]; rfl

theorem entryLoop_changes (i : LaneId) (fuel : Nat) : Changes s (s.entryLoop i fuel) := by
  induction fuel generalizing s with
  | zero =>
    unfold State.entryLoop
    split
    · rename_i h; exact realign_changes h.2
    · exact .refl
  | succ fuel ih =>
    unfold State.entryLoop
    split
    · rename_i h
      dsimp only
      split
      · exact frameEntry_changes (pastEnd_playhead h)
      · exact (frameEntry_changes (pastEnd_playhead h)).trans ih
    · exact .refl

theorem stepFromEntry_changes (i : LaneId) (d : Int) : Changes s (s.stepFromEntry i d) :=
  ((entryLoop_changes i _).trans (fetchAndHand_changes i)).trans (modLane_changes_keep i _ (laneLegal_advance d) rfl)

theorem playTurn_changes (i : LaneId) : Changes s (s.playTurn i) := by
  unfold State.playTurn
  dsimp only
  split
  · rename_i h
    refine (realign_changes ?_).trans (stepFromEntry_changes i _)
    unfold mustRealign at h
    split at h
    · assumption
    · cases h
  · exact stepFromEntry_changes i _

theorem primeTurn_changes {i : LaneId} (hs : (s.lane i).state = .prime) : Changes s (s.primeTurn i) := by
  unfold State.primeTurn
  split
  · split
    · exact (modLane_changes_keep i _ (laneLegal_startPlay _ hs) rfl).trans (stepFromEntry_changes i _)
    · exact handSilence_changes i
  · exact handSilence_changes i

theorem laneTurn_changes (i : LaneId) : Changes s (s.laneTurn i) := by
  unfold State.laneTurn
  split
  · exact handSilence_changes i
  · rename_i hs; exact (waitTurn_changes hs).trans (handSilence_changes i)
  · rename_i hs; exact primeTurn_changes hs
  · exact playTurn_changes i
  · exact playTurn_changes i

theorem laneInOrder_changes (i : LaneId) : Changes s (s.laneInOrder i) := by
  unfold State.laneInOrder
  split
  · exact laneTurn_changes i
  · exact endRamps_changes.trans (laneTurn_changes i)

theorem samplePins_changes (sns0 sns1 : Bool) : Changes s (s.samplePins sns0 sns1) :=
  (setInput_changes 0 _).trans (setInput_changes 1 _)

theorem instantActs_changes (sns0 sns1 senseFirst : Bool) : Changes s (s.instantActs sns0 sns1 senseFirst) := by
  have lanes : ∀ u : State, Changes u ((allLanes.foldl (fun s i => s.laneInOrder i) u).arbitrate) := fun u =>
    (Changes.foldl (fun _ i => laneInOrder_changes i) _ u).trans arbitrate_changes
  unfold State.instantActs
  dsimp only
  split
  · exact (((samplePins_changes sns0 sns1).trans (senseAcceptAct_changes 0)).trans (senseAcceptAct_changes 1)).trans (lanes _)
  · exact (lanes s).trans (samplePins_changes sns0 sns1)

theorem outputInstant_changes (sns0 sns1 senseFirst : Bool) : Changes s (s.outputInstant sns0 sns1 senseFirst) := by
  unfold State.outputInstant
  split
  · exact .head (.aside s true _ _ _ _ _ _ _ _ _) (instantActs_changes sns0 sns1 senseFirst)
  · exact .refl

/-! ### The receiver (R1 to R7) -/

theorem claimEntry_changes (ho : s.rx.inside = false) : Changes s s.claimEntry := by
  unfold State.claimEntry
  split
  · rename_i hl
    refine .single (.receive s _ (fun _ => ?_) fun h => ?_)
    · simp only [Config.ingressEntries] at hl
      simp; omega
    · refine ⟨by rintro ⟨⟩, fun _ => ⟨s.rx.ingress, _, rfl, rfl, h.outside ho⟩, fun o hh => ?_, h.placing⟩
      obtain ⟨e, rest, hq, hc⟩ := h.hand o hh
      exact ⟨e, _, by simp only [hq]; rfl, hc⟩
  · exact .single (.raise s _)

/-- R7: only the newest entry is lost. -/
theorem abandonReception_changes (hi : s.rx.inside = true) : Changes s s.abandonReception := by
  refine .single (.receive s _ (fun h => (List.length_filter_le _ _).trans h) fun h => ?_)
  obtain ⟨pre, e, hq, hr, hall⟩ := h.inside hi
  have hpre : (s.rx.ingress.filter (fun e => e.phase != .receiving)) = pre := by
    rw [hq, List.filter_append, List.filter_eq_self.mpr (fun x hx => by rw [hall x hx]; rfl)]
    simp [hr]
  refine ⟨fun _ x hx => ?_, by rintro ⟨⟩, fun o hh => ?_, h.placing⟩
  · rw [hpre] at hx; exact hall x hx
  · obtain ⟨x, rest, hx, hc⟩ := h.hand o hh
    cases pre with
    | nil =>
      rw [hq] at hx; injection hx with hx _
      rw [hx, hc] at hr; cases hr
    | cons y more =>
      rw [hq] at hx; injection hx with hx _
      exact ⟨y, more, hpre, by rw [hx]; exact hc⟩

/-- The entry in reception gains a byte or a mark, its phase kept. -/
theorem modReceiving_changes (f : IngressEntry → IngressEntry) (hf : ∀ e, (f e).phase = e.phase) :
    Changes s (s.modReceiving f) := by
  have hphase : ∀ e : IngressEntry, (if e.phase = .receiving then f e else e).phase = e.phase := fun e => by
    split <;> simp [hf]
  refine .single (.receive s _ (fun h => by simpa using h) fun h => ⟨fun ho e he => ?_, fun hi => ?_, fun o hh => ?_, h.placing⟩)
  · obtain ⟨x, hx, rfl⟩ := List.mem_map.mp he
    rw [hphase]; exact h.outside ho x hx
  · obtain ⟨pre, e, hq, hr, hall⟩ := h.inside hi
    refine ⟨_, _, by simp only [hq, List.map_append, List.map_cons, List.map_nil]; rfl, by rw [hphase]; exact hr, fun x hx => ?_⟩
    obtain ⟨y, hy, rfl⟩ := List.mem_map.mp hx
    rw [hphase]; exact hall y hy
  · obtain ⟨e, rest, hq, hc⟩ := h.hand o hh
    exact ⟨_, _, by simp only [hq, List.map_cons]; rfl, by rw [hphase]; exact hc⟩

theorem receiveByte_changes (b : Byte) (bad : Bool) : Changes s (s.receiveByte b bad) := by
  unfold State.receiveByte
  split
  · rename_i hi
    split
    · split
      · exact .head (.raise s .frameMalformed) (abandonReception_changes hi)
      · exact modReceiving_changes _ fun _ => rfl
    · exact .refl
  · exact .refl

theorem receiveEof_changes : Changes s s.receiveEof := by
  unfold State.receiveEof
  split
  · rename_i hi
    refine .single (.receive s _ (fun h => by simpa [State.modReceiving] using h) fun h =>
      ⟨fun _ e he => ?_, by rintro ⟨⟩, fun o hh => ?_, h.placing⟩)
    · obtain ⟨x, hx, rfl⟩ := List.mem_map.mp he
      cases hp : x.phase <;> simp [hp]
    · obtain ⟨e, rest, hq, hc⟩ := h.hand o hh
      exact ⟨_, _, by simp only [State.modReceiving, hq, List.map_cons]; rfl, by simp [hc]⟩
  · exact .refl

theorem receiveWord_changes (w : LinkWord) : Changes s (s.receiveWord w) := by
  unfold State.receiveWord
  split
  · split
    · exact receiveByte_changes _ _
    · exact .refl
    · unfold State.receiveSof
      split
      · rename_i hi
        have left : Changes s (s.raise .frameAborted).abandonReception :=
          .head (.raise s .frameAborted) (abandonReception_changes (s := s.raise .frameAborted) hi)
        exact left.trans (claimEntry_changes rfl)
      · rename_i ho; exact claimEntry_changes (by simpa using ho)
    · exact receiveEof_changes
    · unfold State.receiveAbt
      split
      · rename_i hi; exact .head (.raise s .frameAborted) (abandonReception_changes hi)
      · exact .refl
    · unfold State.receiveBadCode
      dsimp only
      split
      · rename_i hi; exact .head (.raise s .linkCode) (abandonReception_changes hi)
      · exact .single (.raise s .linkCode)
  · exact .head (.raise s .linkParity) (receiveByte_changes _ _)

/-! ### The transmitter (R10 to R16) -/

theorem transmit_changes (tx : Transmitter) (fits : TxFits s.tx → TxFits tx) : Changes s { s with tx := tx } :=
  .single (.transmit s tx fits)

theorem departed_advances (q : BitVec 8) (t1 : Time) (g : GroupSlot) : g.Advances (g.departed q t1) := by
  unfold GroupSlot.departed
  split
  · split <;> exact .of_kept rfl rfl rfl rfl rfl rfl
  · exact .of_kept rfl rfl rfl rfl rfl rfl

theorem select_changes : Changes s s.select := by
  unfold State.select
  split
  · rename_i e rest hq
    exact transmit_changes _ fun h => ⟨by have := h.ret; simp [hq] at this; simp; omega, h.snd, h.src, h.rep⟩
  · rename_i e rest _ hq
    have sent : Changes s (State.sendSof .sounding (putTime e.bytes 5 s.time.lmc)
        { s with tx := { s.tx with snd := rest } }) := transmit_changes _ fun h => by
      have hs := h.snd
      rw [hq, List.map_cons, List.nodup_cons] at hs
      exact ⟨h.ret, hs.2, h.src, h.rep⟩
    exact sent.trans (modSlot_changes e.slot _ (departed_advances _ _ _))
  · rename_i b rest _ _ hq
    exact transmit_changes _ fun h => ⟨h.ret, h.snd, by have := h.src; simp [hq] at this; simp; omega, h.rep⟩
  · rename_i b rest _ _ _ hq
    exact transmit_changes _ fun h => ⟨h.ret, h.snd, h.src, by have := h.rep; simp [hq] at this; simp [this]⟩
  · exact .refl

theorem startDeparture_changes : Changes s s.startDeparture := by
  unfold State.startDeparture
  split
  · exact .refl
  · have dropped : Changes s s.dropStaleReturns := transmit_changes _ fun h =>
      ⟨(List.dropWhile_sublist _).length_le.trans h.ret, h.snd, h.src, h.rep⟩
    exact dropped.trans select_changes

end Sys2Proof.Machine
end

section
/-! The changes that the dispatcher makes short of a placement (spec/02 section 2.7, spec/06 section 6.3), those of the
management requests (spec/11 section 11.2), and the page map's first fit (R111). -/

namespace Sys2Proof.Machine

open Sys2Proof.Safety

variable {s : State}

/-! ### First fit (R111) -/

/-- R111: the run of `len` pages from `p` on is free. -/
def Fits (pages : List (Option RouteId)) (len p : Nat) : Prop := ∀ k, k < len → pages[p + k]? = some none

/-- R111: from a page `at'` on, the `run` pages before it being free and no earlier run fitting, the search gives the lowest
run that fits, or none fits. -/
theorem firstFit_from (len : Nat) (pages : List (Option RouteId)) : ∀ (l : List (Option RouteId)) (at' run : Nat),
    pages.drop at' = l → run < len → run ≤ at' → (∀ k, at' - run ≤ k → k < at' → pages[k]? = some none) →
    (∀ q, q < at' - run → ¬ Fits pages len q) →
    match firstFit len l at' run with
    | some p => Fits pages len p ∧ ∀ q, q < p → ¬ Fits pages len q
    | none => ∀ q, ¬ Fits pages len q := by
  intro l
  induction l with
  | nil =>
    intro at' run hl hrun _ _ hno q hfit
    by_cases hq : q < at' - run
    · exact hno q hq hfit
    · have hend : pages.length ≤ at' := List.drop_eq_nil_iff.mp hl
      have := hfit (len - 1) (by omega)
      rw [List.getElem?_eq_none (by omega)] at this
      cases this
  | cons o rest ih =>
    intro at' run hl hrun hle hfree hno
    have hpage : pages[at']? = some o := by
      rw [← List.head?_drop, hl]; rfl
    have hrest : pages.drop (at' + 1) = rest := by
      rw [← List.tail_drop, hl]; rfl
    unfold firstFit
    cases o with
    | none =>
      simp only [Option.isNone_none, if_true]
      by_cases hfull : run + 1 = len
      · rw [if_pos hfull]
        refine ⟨fun k hk => ?_, fun q hq => hno q (by omega)⟩
        by_cases hlast : at' + 1 - len + k = at'
        · rw [hlast]; exact hpage
        · exact hfree _ (by omega) (by omega)
      · rw [if_neg hfull]
        refine ih (at' + 1) (run + 1) hrest (by omega) (by omega) (fun k h1 h2 => ?_) fun q hq => hno q (by omega)
        by_cases hlast : k = at'
        · rw [hlast]; exact hpage
        · exact hfree k (by omega) (by omega)
    | some r =>
      simp only [Option.isNone_some, Bool.false_eq_true, if_false]
      refine ih (at' + 1) 0 hrest (by omega) (by omega) (fun k h1 h2 => by omega) fun q hq hfit => ?_
      by_cases hq' : q < at' - run
      · exact hno q hq' hfit
      · have := hfit (at' - q) (by omega)
        rw [Nat.add_sub_cancel' (by omega), hpage] at this
        cases this

/-- R111: the run found is the lowest that fits; where none is found none fits. -/
theorem firstFit_spec (len : Nat) (pages : List (Option RouteId)) (hlen : 0 < len) :
    match firstFit len pages 0 0 with
    | some p => Fits pages len p ∧ ∀ q, q < p → ¬ Fits pages len q
    | none => ∀ q, ¬ Fits pages len q :=
  firstFit_from len pages pages 0 0 rfl hlen (Nat.le_refl 0) (by omega) (by omega)

/-- A run that fits lies inside the store. -/
theorem Fits.inside {pages : List (Option RouteId)} {len p : Nat} (h : Fits pages len p) (hlen : 0 < len) :
    p + len ≤ pages.length := by
  have := h (len - 1) (by omega)
  have := (List.getElem?_eq_some_iff.mp this).1
  omega

/-! ### The dispatcher -/

/-- R8, R27: the dispatcher holds no frame and the oldest entry is COMPLETE. -/
structure AtDesk (s : State) : Prop where
  hand : s.rx.hand = none
  oldest : ∃ e rest, s.rx.ingress = e :: rest ∧ e.phase = .complete

theorem AtDesk.discarded (h : AtDesk s) : Changes s s.releaseHand := by
  obtain ⟨e, rest, hq, hc⟩ := h.oldest
  refine releaseHand_changes (by rw [h.hand]; simp) fun _ e' rest' hq' => ?_
  rw [hq] at hq'; injection hq' with he _
  rw [← he]; exact hc

/-- The desk is as the receiver and its queue are. -/
theorem AtDesk.of_rx {t : State} (h : AtDesk s) (hrx : t.rx = s.rx) : AtDesk t :=
  ⟨hrx ▸ h.hand, hrx ▸ h.oldest⟩

/-- R8, R27: an owner other than the route unit takes the oldest entry in hand. -/
theorem AtDesk.taken (h : AtDesk s) {o : Owner} (ho : o ≠ .routeUnit) :
    Changes s { s with rx := { s.rx with hand := some o } } := by
  refine .single (.receive s _ id fun hl => ⟨hl.outside, hl.inside, fun _ _ => h.oldest, ?_⟩)
  have hp : ¬ s.store.placement.isSome = true := fun hp => by
    have := hl.placing.mpr hp
    rw [h.hand] at this; cases this
  exact ⟨fun hr => absurd (by injection hr) ho, fun h' => absurd h' hp⟩

/-- The same after changes that leave the receiver alone. -/
theorem AtDesk.discarded_after (h : AtDesk s) {u : State} (hc : Changes s u) (hrx : u.rx = s.rx) :
    Changes s u.releaseHand := hc.trans (h.of_rx hrx).discarded

theorem soundingDue_rx (i : SlotId) : (s.soundingDue i).rx = s.rx := by
  have made : ∀ u : State, (u.makeSounding i).rx = u.rx := fun u => by
    unfold State.makeSounding
    dsimp only
    split
    · rfl
    · split <;> rfl
  unfold State.soundingDue
  split
  · rfl
  · split
    · exact made s
    · rfl
    · exact made _

theorem soundingEnded_rx (i : SlotId) (t1 : Time) : (s.soundingEnded i t1).rx = s.rx := by
  unfold State.soundingEnded
  split
  · split
    · split
      · exact soundingDue_rx i
      · rfl
    · rfl
  · rfl

theorem takeReturn_changes (h : AtDesk s) (i : SlotId) (stamp : Time) (bs : List Byte) :
    Changes s (s.takeReturn i stamp bs) := by
  unfold State.takeReturn
  split
  · rename_i c x _ _
    have acted := ((modSlot_changes (s := s) i GroupSlot.complete advances_complete).trans
      (soundingEnded_changes i x.t1)).trans (modSlot_changes i (fun g => g.takeSample c x) (advances_takeSample c x))
    have desk : AtDesk (((s.modSlot i GroupSlot.complete).soundingEnded i x.t1).modSlot i (fun g => g.takeSample c x)) :=
      h.of_rx (soundingEnded_rx i x.t1)
    dsimp only
    split
    · exact acted.trans (desk.taken (by simp))
    · exact acted.trans desk.discarded
  · exact h.discarded_after (modSlot_changes_kept i _ rfl rfl rfl rfl rfl rfl) rfl

theorem answerSounding_changes (i : SlotId) (stamp : Time) (bs : List Byte) : Changes s (s.answerSounding i stamp bs) := by
  unfold State.answerSounding
  split
  · exact .refl
  · split
    · rename_i m _ hl
      have offered : ∀ e : ReturnEntry, Changes s { s with tx := { s.tx with ret := s.tx.ret ++ [e] } } := fun e =>
        transmit_changes _ fun h => ⟨by simp only [Config.returnEntries] at hl; simp; omega, h.snd, h.src, h.rep⟩
      exact (offered _).trans (modSlot_changes_kept i _ rfl rfl rfl rfl rfl rfl)
    · exact .single (.raise s _)

theorem answerSounding_rx (i : SlotId) (stamp : Time) (bs : List Byte) : (s.answerSounding i stamp bs).rx = s.rx := by
  unfold State.answerSounding
  split
  · rfl
  · split <;> rfl

theorem dispatchRequest_changes (h : AtDesk s) (e : IngressEntry) : Changes s (s.dispatchRequest e) := by
  unfold State.dispatchRequest
  split
  · rename_i hl
    have queued : ∀ f : MgmtFrame, Changes s { s with mgmt := { s.mgmt with queue := s.mgmt.queue ++ [f] } } := fun f =>
      .single (.queue s _ fun _ => by simp only [Config.mgmtFrames] at hl; simp; omega)
    have desk : ∀ f : MgmtFrame, AtDesk { s with mgmt := { s.mgmt with queue := s.mgmt.queue ++ [f] } } := fun _ =>
      h.of_rx rfl
    exact (queued _).trans ((desk _).taken (by simp))
  · exact h.discarded_after (.single (.raise s .mgmtOverrun)) rfl

theorem offerSource_changes (b : List Byte) : Changes s (s.offerSource b) := by
  unfold State.offerSource
  split
  · rename_i hl
    exact transmit_changes _ fun h => ⟨h.ret, h.snd, by simp only [Config.sourceEntries] at hl; simp; omega, h.rep⟩
  · exact .single (.raise s _)

theorem offerSource_rx (b : List Byte) : (s.offerSource b).rx = s.rx := by unfold State.offerSource; split <;> rfl
theorem offerSource_route (b : List Byte) (r : RouteId) : (s.offerSource b).route r = s.route r := by
  unfold State.offerSource; split <;> rfl

/-- R93 step 4: a frame of an ARMED or LIVE route with the configuration `c` stands at the route unit. -/
structure AtRoute (r : RouteId) (c : RouteConfig) (s : State) : Prop where
  desk : AtDesk s
  config : (s.route r).config = some c
  taking : (s.route r).taking = true

/-- What a dispatch does: changes alone, or changes and then a placement decision. -/
inductive Dispatched (s : State) : State → Prop
  | changed {t : State} (h : Changes s t) : Dispatched s t
  | placed {u : State} (h : Changes s u) (r : RouteId) (c : RouteConfig) (f : StoredFrame) (bs : List Byte)
      (n : f.n = audioN bs) (at' : AtRoute r c u) : Dispatched s (u.place r c f bs)

/-- R96 to R99: the stamp record, the count of a restamped frame and the offer of the stamped copy. -/
theorem stampAndPlace_dispatched {r : RouteId} {c : RouteConfig} (h : AtRoute r c s) (m : TimelineMap) (e : IngressEntry) :
    Dispatched s (s.stampAndPlace r c m e) := by
  unfold State.stampAndPlace
  dsimp only
  generalize stampFor _ _ _ _ = st
  have noted : ∀ (q : Option Seq) (p : Option (Time × Nat)),
      Changes s (s.modRoute r (fun t => { t with nextSeq := q, lastStamp := p })) := fun q p =>
    .single (.note s r q p _)
  have counted : ∀ (u : State) (b : Bool), AtRoute r c u →
      Changes u (if b then (u.bump r (fun k => { k with restamped := countUp k.restamped })).raise .restamped else u) ∧
      AtRoute r c (if b then (u.bump r (fun k => { k with restamped := countUp k.restamped })).raise .restamped else u) := by
    intro u b hu
    cases b
    · exact ⟨.refl, hu⟩
    · exact ⟨(bump_changes r _).tail (.raise _ _), hu.desk.of_rx rfl, by simpa using hu.config,
        by simpa [Route.taking] using hu.taking⟩
  have offered : ∀ (u : State) (b : List Byte), AtRoute r c u → AtRoute r c (u.offerSource b) := fun u b hu =>
    ⟨hu.desk.of_rx (offerSource_rx b), by rw [offerSource_route]; exact hu.config, by rw [offerSource_route]; exact hu.taking⟩
  refine .placed (((noted _ _).trans (counted _ _ ?_).1).trans (offerSource_changes _)) r c _ _ rfl (offered _ _ (counted _ _ ?_).2)
  all_goals exact ⟨h.desk.of_rx rfl, by simpa using h.config, by simpa [Route.taking] using h.taking⟩

theorem admitFrame_dispatched {r : RouteId} {c : RouteConfig} (hd : AtDesk s) (hc : (s.route r).config = some c)
    (e : IngressEntry) : Dispatched s (s.admitFrame r c e) := by
  unfold State.admitFrame
  split
  · exact .changed hd.discarded
  · rename_i ht
    have hr : AtRoute r c s := ⟨hd, hc, by simpa using ht⟩
    split
    · exact .changed (hd.discarded_after (bump_changes r _) rfl)
    · split
      · exact .changed (hd.discarded_after ((bump_changes r _).tail (.raise _ _)) rfl)
      · split
        · exact .placed .refl r c _ _ rfl hr
        · exact stampAndPlace_dispatched hr _ e
        · exact .changed hd.discarded

theorem dispatchAudio_dispatched (h : AtDesk s) (e : IngressEntry) : Dispatched s (s.dispatchAudio e) := by
  unfold State.dispatchAudio State.lookUpAudio
  split
  · exact .changed h.discarded
  · split
    · rename_i r c hr; exact admitFrame_dispatched h (routeHolding_some hr).1 e
    · split
      · exact .changed h.discarded
      · exact .changed (h.discarded_after (.single (.raise s _)) rfl)

theorem dispatchSounding_changes (h : AtDesk s) (e : IngressEntry) : Changes s (s.dispatchSounding e) := by
  unfold State.dispatchSounding
  split
  · split
    · exact (answerSounding_changes _ _ _).trans (h.of_rx (answerSounding_rx _ _ _)).discarded
    · exact h.discarded
  · exact h.discarded

theorem dispatchReturn_changes (h : AtDesk s) (e : IngressEntry) : Changes s (s.dispatchReturn e) := by
  unfold State.dispatchReturn
  split
  · split
    · exact takeReturn_changes h _ _ _
    · exact h.discarded
  · exact h.discarded

theorem checkFrame_dispatched (h : AtDesk s) (e : IngressEntry) : Dispatched s (s.checkFrame e) := by
  have refused : ∀ c : Condition, Dispatched s ((s.raise c).releaseHand) := fun c =>
    .changed (h.discarded_after (.single (.raise s c)) rfl)
  unfold State.checkFrame
  dsimp only
  split
  · exact refused _
  · split
    · exact .changed h.discarded
    · split
      · split
        · exact refused _
        · exact .changed h.discarded
      · split
        · exact refused _
        · split
          · exact .changed h.discarded
          · split
            · unfold State.handOver
              split
              · exact dispatchAudio_dispatched h e
              · exact .changed (dispatchSounding_changes h e)
              · exact .changed (dispatchReturn_changes h e)
              · exact .changed (dispatchRequest_changes h e)
            · exact refused _

theorem dispatchOldest_dispatched : Dispatched s s.dispatchOldest := by
  unfold State.dispatchOldest
  split
  · rename_i e rest hh hq
    split
    · rename_i hc; exact checkFrame_dispatched ⟨hh, e, rest, hq, hc⟩ e
    · exact .changed .refl
  · exact .changed .refl

theorem endCopy_changes : Changes s s.endCopy := by
  unfold State.endCopy
  split
  · rename_i h
    have copied : Changes s { s with mgmt := { s.mgmt with queue := s.mgmt.queue.map (fun f => { f with copied := true }) } } :=
      .single (.queue s _ fun h => by simpa using h)
    exact copied.trans (releaseHand_changes_of_hand (s := { s with mgmt := { s.mgmt with
      queue := s.mgmt.queue.map (fun f => { f with copied := true }) } }) h (by simp))
  · exact .refl

/-- R104: marking a frame keeps its phase, and the queue's law with it. -/
theorem markHandOff_changes (r : RouteId) : Changes s (s.markHandOff r) := by
  rcases markHandOff_cases (s := s) r with h | ⟨e, rest, c, -, hq, -, -, -, -, h⟩
  · rw [h]
  · rw [h]
    refine .single (.receive s _ (fun hl => by simpa [hq] using hl) fun hl => ⟨fun ho x hx => ?_, fun hi => ?_, fun o hh => ?_,
      hl.placing⟩)
    · rcases List.mem_cons.mp hx with rfl | hx
      · exact hl.outside ho e (by rw [hq]; simp)
      · exact hl.outside ho x (by rw [hq]; exact List.mem_cons_of_mem _ hx)
    · obtain ⟨pre, x, hpre, hx, hall⟩ := hl.inside hi
      cases pre with
      | nil =>
        rw [hq] at hpre; injection hpre with he hr
        exact ⟨[], _, by rw [hr]; rfl, by rw [he]; exact hx, by simp⟩
      | cons y more =>
        rw [hq] at hpre; injection hpre with he hr
        refine ⟨{ e with disarmed := true } :: more, x, by rw [hr]; rfl, hx, fun z hz => ?_⟩
        rcases List.mem_cons.mp hz with rfl | hz
        · rw [he]; exact hall y (by simp)
        · exact hall z (List.mem_cons_of_mem _ hz)
    · obtain ⟨x, more, hx, hc⟩ := hl.hand o hh
      rw [hq] at hx; injection hx with he _
      exact ⟨_, _, rfl, by rw [he]; exact hc⟩

end Sys2Proof.Machine
end

section
/-! The changes that the management requests make (spec/11 section 11.2), but for a disarm's abandoned placement and a reset. -/

namespace Sys2Proof.Machine

open Sys2Proof.Safety

variable {s : State}

/-! ### The engine -/

theorem beginFrame_changes : Changes s s.beginFrame := by
  have phased : ∀ (p : EnginePhase) (todo : List Item) (results : List ItemResult),
      Changes s { s with mgmt := { s.mgmt with phase := p, todo := todo, results := results } } := fun p todo results =>
    .single (.aside s _ _ _ _ _ _ _ p todo results)
  unfold State.beginFrame
  split
  · split
    · exact .refl
    · split
      · exact phased _ _ _
      · exact phased _ _ _
  · split
    · exact .refl
    · split
      · exact phased _ _ _
      · exact phased _ _ _
  · exact .refl

theorem setPhase_changes (p : EnginePhase) : Changes s { s with mgmt := { s.mgmt with phase := p } } :=
  .single (.aside s _ _ _ _ _ _ _ p _ _)

theorem refuseUnknown_changes : Changes s s.refuseUnknown := by
  unfold State.refuseUnknown
  split
  · split
    · exact .refl
    · exact finishItem_changes _ _
  · exact .refl

theorem awaitReset_changes (f : MgmtFrame) (item : Item) : Changes s (s.awaitReset f item) :=
  (offerReply_changes f _).tail (.aside _ _ _ _ _ _ _ _ .resetWait [] (s.mgmt.results ++ [itemResult item.code .done []]))

theorem senseActionItem_changes (ops : List Byte) : Changes s (senseActionItem ops s) := by
  unfold senseActionItem
  split
  · exact ((setInput_changes 0 _).trans (setInput_changes 1 _)).trans (finishItem_changes _ _)
  · exact finishItem_changes _ _

/-! ### GROUP-SET (R45 to R49) -/

theorem groupSetConfig_inRange (ops : List Byte) : configInRange (groupSetConfig ops) = true := by
  have byte : ∀ off, fieldAt ops off 2 ≤ 65535 := fun off => by
    unfold fieldAt
    generalize ops.drop off = bs
    rcases bs with _ | ⟨a, _ | ⟨b, rest⟩⟩
    · simp [beNat]
    · have := a.isLt; simp [beNat]; omega
    · have := a.isLt; have := b.isLt; simp [beNat]; omega
  have h1 := clampNat_mem 0 14 (fieldAt ops 3 1) (by decide)
  have h2 := clampNat_mem 16 27 (fieldAt ops 5 1) (by decide)
  have h3 := clampNat_mem (2 ^ 14) (2 ^ 24) (fieldAt ops 6 4) (by decide)
  have h4 := clampNat_mem 1 8 (fieldAt ops 10 1) (by decide)
  have h5 := clampNat_mem 0 4 (fieldAt ops 13 1) (by decide)
  have h6 := clampNat_mem 1 15 (fieldAt ops 16 1) (by decide)
  have h7 := clampNat_mem 1 15 (fieldAt ops 17 1) (by decide)
  have h8 := clampNat_mem 1 15 (fieldAt ops 18 1) (by decide)
  have h9 := clampNat_mem 16 255 (fieldAt ops 19 1) (by decide)
  have hleader : (BitVec.ofNat 8 (clampNat 0 14 (fieldAt ops 3 1))).toNat ≤ 14 := by
    rw [BitVec.toNat_ofNat]; omega
  simp only [configInRange, groupSetConfig, Bool.and_eq_true]
  exact ⟨⟨⟨⟨⟨⟨⟨⟨⟨⟨decide_eq_true hleader, decide_eq_true h2⟩, decide_eq_true h3⟩, decide_eq_true h4⟩, decide_eq_true (byte 11)⟩,
    decide_eq_true h5.2⟩, decide_eq_true (byte 14)⟩, decide_eq_true h6⟩, decide_eq_true h7⟩, decide_eq_true h8⟩,
    decide_eq_true h9⟩

theorem reschedule_changes (i : SlotId) (was : Bool) : Changes s (s.reschedule i was) := by
  unfold State.reschedule
  split
  · split
    · exact .refl
    · exact soundingDue_changes i
  · exact modSlot_changes_kept i _ rfl rfl rfl rfl rfl rfl

theorem tagElsewhere_iff (i : SlotId) (tag : Byte) : s.tagElsewhere i tag = true ↔ ∃ j, j ≠ i ∧ (s.slot j).tag = tag := by
  simp only [State.tagElsewhere, List.any_eq_true, Bool.and_eq_true, bne_iff_ne, beq_iff_eq]
  constructor
  · rintro ⟨j, -, h⟩; exact ⟨j, h⟩
  · rintro ⟨j, h⟩; exact ⟨j, by fin_cases j <;> simp [allSlots], h⟩

/-- R47: a rewritten slot keeps role, state, map, tag and history. -/
theorem rewrite_fits (i : SlotId) {c : SlotConfig} (hc : configInRange c = true) : SlotFits i ((s.slot i).rewrite c) s where
  legal h := h
  config k hk := by injection hk with hk; exact .inr (hk ▸ hc)
  tag := .inl rfl
  history h := h

theorem applyGroupSet_changes {i : SlotId} {tag : Byte} (role : Role) {c : SlotConfig} (hc : configInRange c = true)
    (ht : ∀ j, j ≠ i → (s.slot j).tag ≠ tag) : Changes s (s.applyGroupSet i tag role c) := by
  have created : ∀ g : GroupSlot, slotLegal g = true → g.config = some c → g.tag = tag → g.history = [] → SlotFits i g s :=
    fun g hl hk htag hh => ⟨fun _ => hl, fun k h => .inr (by rw [hk] at h; injection h with h; exact h ▸ hc),
      .inr (.inr (by rw [htag]; exact ht)), fun _ => by rw [hh]; simp⟩
  have rewritten : Changes s (s.setSlot i ((s.slot i).rewrite c)) :=
    .single (.slot s i _ (rewrite_fits i hc) fun _ h => .inl h)
  unfold State.applyGroupSet
  dsimp only
  split
  · exact .single (.slot s i _ (created _ rfl rfl rfl rfl) fun _ _ => .inl rfl)
  · rename_i hr
    refine Relation.ReflTransGen.head (.slot s i _ (created _ rfl rfl rfl rfl) fun hl hs => ?_) (reschedule_changes i false)
    simp [slotLegal, hr, hs] at hl
  · exact rewritten
  · exact rewritten.trans (reschedule_changes i _)
  · rename_i hr
    refine Relation.ReflTransGen.head (.regroup s i ((s.slot i).toFollower c) ⟨fun hl => ?_, fun k h => ?_, .inl rfl, fun _ => Nat.zero_le 8⟩)
      (reschedule_changes i false)
    · have hm : ∃ m : TimelineMap, (s.slot i).map = some m ∧ m.trim = 0 := by
        unfold slotLegal at hl
        rw [hr] at hl
        split at hl <;> simp_all
      obtain ⟨m, hm, h0⟩ := hm
      exact (slotLegal_mapped (g := (s.slot i).toFollower c) rfl (.inl rfl)).mpr ⟨m, hm, by rw [h0]; rfl⟩
    · injection h with h; exact .inr (h ▸ hc)
  · refine (withdrawSounding_changes i).tail (.slot _ i ((s.slot i).toLeader c s.time.lmc) ⟨fun _ => ?_, fun k h => ?_, .inl rfl, fun _ => Nat.zero_le 8⟩
      fun _ _ => .inl rfl)
    · cases hm : (s.slot i).map <;> simp [slotLegal, GroupSlot.toLeader, GroupSlot.enterState, hm, TimelineMap.reanchor, TimelineMap.identity]
    · injection h with h; exact .inr (h ▸ hc)

theorem groupSetItem_changes (ops : List Byte) : Changes s (groupSetItem ops s) := by
  unfold groupSetItem
  split
  · exact finishItem_changes _ _
  · rename_i h _
    split
    · exact finishItem_changes _ _
    · rename_i ht
      split
      · exact finishItem_changes _ _
      · refine (applyGroupSet_changes h.role (groupSetConfig_inRange ops) fun j hj he => ht ?_).trans (finishItem_changes _ _)
        exact (tagElsewhere_iff h.slot h.tag).mpr ⟨j, hj, he⟩

/-! ### GROUP-CLEAR, GROUP-SOUND, GROUP-MEASURE -/

theorem slotRouted_iff (i : SlotId) :
    s.slotRouted i = true ↔ ∃ r c, (s.route r).config = some c ∧ (s.route r).state ≠ .free ∧ c.slot = i := by
  simp only [State.slotRouted, List.any_eq_true]
  constructor
  · rintro ⟨r, -, h⟩
    split at h
    · rename_i c hc
      simp only [Bool.and_eq_true, bne_iff_ne, beq_iff_eq] at h
      exact ⟨r, c, hc, h⟩
    · cases h
  · rintro ⟨r, c, hc, h⟩
    exact ⟨r, by fin_cases r <;> simp [allRoutes], by simp only [hc, Bool.and_eq_true, bne_iff_ne, beq_iff_eq]; exact h⟩

theorem clearSlot_changes {i : SlotId} (h : s.slotRouted i = false) : Changes s (s.clearSlot i) := by
  unfold State.clearSlot
  split
  · refine (withdrawSounding_changes i).tail (.slot _ i _ ⟨fun _ => rfl, by rintro _ ⟨⟩, .inr (.inl rfl), fun _ => Nat.zero_le 8⟩
      fun _ _ => .inr fun r c hc hs hi => ?_)
    rw [← Bool.not_eq_true, slotRouted_iff] at h
    exact h ⟨r, c, hc, hs, hi⟩
  · exact .refl

theorem groupClearItem_changes (ops : List Byte) : Changes s (groupClearItem ops s) := by
  unfold groupClearItem
  split
  · exact finishItem_changes _ _
  · split
    · exact finishItem_changes _ _
    · rename_i h; exact (clearSlot_changes (by simpa using h)).trans (finishItem_changes _ _)

theorem groupSoundItem_changes (ops : List Byte) : Changes s (groupSoundItem ops s) := by
  unfold groupSoundItem
  split
  · exact finishItem_changes _ _
  · split
    · exact (soundingDue_changes _).trans (finishItem_changes _ _)
    · exact finishItem_changes _ _

theorem groupMeasureItem_changes (ops : List Byte) : Changes s (groupMeasureItem ops s) := by
  unfold groupMeasureItem
  split
  · exact finishItem_changes _ _
  · exact (modSlot_changes_kept _ _ rfl rfl rfl rfl rfl rfl).trans (finishItem_changes _ _)

/-! ### Route requests -/

theorem depthOf_cases (v : Nat) : depthOf v = 8 ∨ depthOf v = 16 ∨ depthOf v = 32 ∨ depthOf v = 64 := by
  unfold depthOf; split_ifs <;> simp

/-- R91: the configuration that the operands of ROUTE-ARM give. -/
theorem routeArmOperands_some {ops : List Byte} {r : RouteId} {c : RouteConfig} (h : routeArmOperands ops = some (r, c)) :
    c.depth = depthOf (fieldAt ops 5 1) ∧ c.slotPages = clampNat 1 8 (fieldAt ops 6 1) := by
  unfold routeArmOperands at h
  split at h
  · injection h with h; injection h with _ h; subst h; exact ⟨rfl, rfl⟩
  · cases h

theorem routeArmItem_changes (ops : List Byte) : Changes s (routeArmItem ops s) := by
  unfold routeArmItem
  split
  · exact finishItem_changes _ _
  · rename_i r c hops
    obtain ⟨hdepth, hpages⟩ := routeArmOperands_some hops
    have hslot := clampNat_mem 1 8 (fieldAt ops 6 1) (by decide)
    have hlen : 0 < c.depth * c.slotPages := by
      rw [hdepth, hpages]
      refine Nat.mul_pos ?_ (by omega)
      rcases depthOf_cases (fieldAt ops 5 1) with h | h | h | h <;> omega
    split
    · exact finishItem_changes _ _
    · rename_i hfree
      split
      · exact finishItem_changes _ _
      · split
        · exact finishItem_changes _ _
        · rename_i hlead
          split
          · exact finishItem_changes _ _
          · have hfit := firstFit_spec (c.depth * c.slotPages) s.store.pages hlen
            split
            · exact finishItem_changes _ _
            · rename_i p hp
              rw [hp] at hfit
              refine .head (.arm s r { c with firstPage := p }
                { free := not_not.mp hfree, inside := hfit.1.inside hlen, pages := hfit.1, source := fun hm => ?_, depth := ?_ })
                (finishItem_changes _ _)
              · exact not_not.mp fun hs => hlead ⟨hm, hs⟩
              · dsimp only
                rw [hdepth]
                rcases depthOf_cases (fieldAt ops 5 1) with h | h | h | h <;> rw [h] <;> decide

theorem routeCountsItem_changes (ops : List Byte) : Changes s (routeCountsItem ops s) := by
  unfold routeCountsItem
  split
  · exact finishItem_changes _ _
  · dsimp only
    split
    · exact finishItem_changes _ _
    · exact (bump_changes _ _).trans (finishItem_changes _ _)

theorem slotPeekItem_changes (ops : List Byte) : Changes s (slotPeekItem ops s) := by
  unfold slotPeekItem
  split
  · exact finishItem_changes _ _
  · split
    · exact finishItem_changes _ _
    · exact finishItem_changes _ _
    · exact setPhase_changes _

theorem grantPeek_changes : Changes s s.grantPeek := by
  unfold State.grantPeek
  split
  · split
    · split
      · exact .head (.aside s _ _ _ _ _ (some .peek) _ _ _ _) (finishItem_changes _ _)
      · exact .refl
    · exact .refl
  · exact .refl

/-! ### Lane requests -/

/-- R189: a LANE-BIND's settings name the route they bind to. -/
theorem laneBindOperands_route {ops : List Byte} {i : LaneId} {r : RouteId} {v : Settings}
    (h : laneBindOperands ops = some (i, r, v)) : v.route = some r := by
  unfold laneBindOperands at h
  dsimp only at h
  split at h
  · split at h
    · cases h
    · simp only [Option.some.injEq, Prod.mk.injEq] at h
      obtain ⟨-, hr, hv⟩ := h
      rw [← hv, hr]
  · cases h

theorem laneBindItem_changes (ops : List Byte) : Changes s (laneBindItem ops s) := by
  unfold laneBindItem
  split
  · exact finishItem_changes _ _
  · rename_i i r v hops
    split
    · exact setPhase_changes _
    · unfold State.bindChecked
      split
      · rename_i ht
        refine (applyBinding_changes i v fun q hq => ?_).trans (finishItem_changes _ _)
        rw [laneBindOperands_route hops] at hq
        injection hq with hq
        exact hq ▸ taking_ne_free ht
      · exact finishItem_changes _ _

theorem laneGainItem_changes (ops : List Byte) : Changes s (laneGainItem ops s) := by
  unfold laneGainItem
  split
  · exact finishItem_changes _ _
  · rename_i i v hops
    split
    · exact setPhase_changes _
    · refine (applyBinding_changes i v fun q hq => ?_).trans (finishItem_changes _ _)
      obtain ⟨_, -, h⟩ := Option.map_eq_some_iff.mp hops
      injection h with _ h
      rw [← h] at hq; cases hq

theorem endLaneWait_changes : Changes s s.endLaneWait := by
  unfold State.endLaneWait
  split
  · split
    · exact .refl
    · dsimp only
      split
      · exact (setPhase_changes .running).trans (laneBindItem_changes _)
      · exact (setPhase_changes .running).trans (laneGainItem_changes _)
  · exact .refl

theorem laneUnbindItem_changes (ops : List Byte) : Changes s (laneUnbindItem ops s) := by
  unfold laneUnbindItem
  split
  · exact finishItem_changes _ _
  · exact (unbindLane_changes _).trans (finishItem_changes _ _)

/-- A request whose body makes changes alone makes changes alone. -/
theorem runItem_changes (q : Request) {body : List Byte → State → State} (h : ∀ ops, Changes s (body ops s)) :
    Changes s (s.runItem q body) := by
  rcases runItem_cases (s := s) q body with hr | hr | hr | ⟨item, _, -, -, -, -, hr⟩
  · rw [hr]
  · rw [hr]; exact finishItem_changes _ _
  · rw [hr]; exact finishItem_changes _ _
  · rw [hr]; exact h _

end Sys2Proof.Machine
end

section
/-! Every step is a placement's completion, if one is due, and then a run of events: changes, the few acts that touch the
counter, the pins, the store memory or the placement in flight, and resets; and, last of a dispatch, a placement decision. -/

namespace Sys2Proof.Machine

open Sys2Proof.Safety

variable {s : State}

/-- What an act may do to the conditions (R192): raise them, set the mask as well, or clear them. -/
inductive Reach where
  | raises | masks | clears

/-- What a command may do to the conditions. -/
def reachOf (c : Instr) (s : State) : Reach :=
  match c with
  | .powerOnReset | .conditionsClear | .deviceReset => .clears
  | .departureEnd => if s.mgmt.phase = .resetWait then .clears else .raises
  | .conditionsMask => .masks
  | _ => .raises

/-- A change, or an act outside `Change`. -/
inductive Event : Reach → State → State → Prop
  | change {k : Reach} {s t : State} (h : Change s t) : Event k s t
  | clock {k : Reach} (s : State) (time : Timebase) : Event k s { s with time := time }
  | pins {k : Reach} (s : State) (pins : Pins) : Event k s { s with pins := pins }
  | mask (s : State) (mask : BitVec 32) : Event .masks s (s.setMask mask)
  | conds (s : State) (cond : Conditions) : Event .clears s { s with cond := cond }
  /-- R119: a write burst ends (log entry 12). -/
  | write {k : Reach} (s : State) (base : Nat) (bytes : List Byte) :
      Event k s { s with store := { s.store with burst := none, mem := Memory.write s.store.mem base bytes } }
  | written {k : Reach} (s : State) (p : Placement) (hp : s.store.placement = some p) :
      Event k s { s with store := { s.store with placement := some { p with written := p.written + 1 } } }
  | abandon {k : Reach} (s : State) (p : Placement) (hp : s.store.placement = some p) :
      Event k s { s with store := { s.store with placement := some { p with abandoned := true } } }
  | drop {k : Reach} (s : State) (p : Placement) (hp : s.store.placement = some p) : Event k s (s.dropPlacement p)
  | reset (s : State) (time : Timebase) (pins : Pins) (words : List LinkWord) (out : OutputPorts)
      (sense : Vector SenseInput 2) :
      Event .clears s { State.reset with
        time := time, pins := pins, tx := { State.reset.tx with words := words }, out := out
        store := Store.afterReset s.store.mem, sense := sense, pending := s.pending }

abbrev Events (k : Reach) : State → State → Prop := Relation.ReflTransGen (Event k)

variable {k : Reach}

theorem Changes.events {s t : State} (h : Changes s t) : Events k s t := Relation.ReflTransGen.mono (fun _ _ h => Event.change h) _ _ h

/-- Events, and then, in a dispatch, a placement decision. -/
inductive Executed (k : Reach) (s : State) : State → Prop
  | plain {t : State} (h : Events k s t) : Executed k s t
  | placed {u : State} (h : Events k s u) (r : RouteId) (c : RouteConfig) (f : StoredFrame) (bs : List Byte)
      (n : f.n = audioN bs) (at' : AtRoute r c u) : Executed k s (u.place r c f bs)

theorem Executed.after {s u t : State} (h : Events k s u) (h' : Executed k u t) : Executed k s t := by
  cases h' with
  | plain h' => exact .plain (h.trans h')
  | placed h' r c f bs n at' => exact .placed (h.trans h') r c f bs n at'

theorem Changes.executed {s t : State} (h : Changes s t) : Executed k s t := .plain h.events

theorem Dispatched.executed {s t : State} (h : Dispatched s t) : Executed k s t := by
  cases h with
  | changed h => exact h.executed
  | placed h r c f bs n at' => exact .placed h.events r c f bs n at'

/-! ### The end of a placement -/

/-- R104, R120: the placement `p` has gone, its entry set to `e`, the route's counters to `k`, and its ingress entry released. -/
def State.settlePlacement (p : Placement) (e : DirEntry) (k : RouteCounters) (s : State) : State :=
  ({ s.setRoute p.route { s.route p.route with dir := (s.route p.route).dir.set p.index e, counters := k } with
    store := { s.store with placement := none } } : State).releaseHand

theorem dropPlacement_eq (p : Placement) :
    s.dropPlacement p = s.settlePlacement p .invalid (s.route p.route).counters := rfl

theorem settleEntry_bump (p : Placement) (e : DirEntry) (f : RouteCounters → RouteCounters) :
    ({ (s.settleEntry p e).bump p.route f with store := { s.store with placement := none } } : State).releaseHand =
      s.settlePlacement p e (f (s.route p.route).counters) := by
  simp [State.settlePlacement, State.settleEntry, State.bump, State.modRoute, State.setRoute, State.releaseHand, State.route]

/-- The end of a placement: its entry is INVALID, or VALID where its frame lies at the release point or after it. -/
theorem completePlacement_cases : s.completePlacement = s ∨ ∃ p k, s.store.placement = some p ∧
    (s.completePlacement = (s.settlePlacement p .invalid k).raise .frameLate ∨
     s.completePlacement = s.settlePlacement p (.valid p.frame) k ∧
       ∃ rp, (s.route p.route).release = some rp ∧ 0 ≤ seqDist rp p.frame.seq) := by
  have late : ∀ (p : Placement) (f : RouteCounters → RouteCounters),
      ({ ((s.settleEntry p .invalid).bump p.route f).raise .frameLate with
        store := { s.store with placement := none } } : State).releaseHand =
        (s.settlePlacement p .invalid (f (s.route p.route).counters)).raise .frameLate := fun p f => by
    rw [← settleEntry_bump]; rfl
  unfold State.completePlacement
  split
  · exact .inl rfl
  · rename_i p hp
    split
    · exact .inl rfl
    · right
      dsimp only
      cases hrp : (s.route p.route).release with
      | none => exact ⟨p, _, hp, .inl (late p _)⟩
      | some rp =>
        by_cases hd : seqDist rp p.frame.seq < 0
        · simp only [hd, decide_true, if_true]
          exact ⟨p, _, hp, .inl (late p _)⟩
        · simp only [hd, decide_false, Bool.false_eq_true, if_false]
          exact ⟨p, _, hp, .inr ⟨settleEntry_bump p _ _, rp, hrp, not_lt.mp hd⟩⟩

/-! ### Settling does not begin a DEVICE-RESET's wait -/

theorem LaneMove.mgmt {i : LaneId} {l : Lane} {t : State} (h : LaneMove i l s t) : t.mgmt = s.mgmt := by
  rcases h with h | ⟨_, _, _, -, h⟩ <;> rw [h] <;> rfl

theorem foldl_mgmt {α : Type} {f : State → α → State} (h : ∀ u a, (f u a).mgmt = u.mgmt) (l : List α) :
    (l.foldl f s).mgmt = s.mgmt := by
  induction l generalizing s with
  | nil => rfl
  | cons a rest ih => rw [List.foldl_cons, ih, h]

theorem signalAcquire_mgmt (g : SlotId) : (s.signalAcquire g).mgmt = s.mgmt := by
  refine foldl_mgmt (fun u i => ?_) _
  split
  · split
    · exact (waitCause_move i).mgmt
    · rfl
  · rfl

theorem muteLanes_mgmt : s.muteLanes.mgmt = s.mgmt := foldl_mgmt (fun _ i => (waitCause_move i).mgmt) _

theorem handleResult_mgmt (i : SlotId) (c : SlotConfig) (e : Int) (t4 : Time) : (s.handleResult i c e t4).mgmt = s.mgmt := by
  unfold State.handleResult State.grossFall State.windowTest
  dsimp only
  split
  · rw [signalAcquire_mgmt]
    split <;> rfl
  · split
    · rfl
    · split <;> rfl

theorem filterBlockAct_mgmt (i : SlotId) : (s.filterBlockAct i).mgmt = s.mgmt := by
  have released : ∀ u : State, (u.releaseReturn i).mgmt = u.mgmt := fun u => by unfold State.releaseReturn; split <;> rfl
  unfold State.filterBlockAct
  split
  · split
    · rw [released, handleResult_mgmt]; rfl
    · rfl
  · rfl

theorem lossActs_mgmt (i : SlotId) : ((s.holdoverAct i).leaderLostAct i).mgmt = s.mgmt := by
  have held : (s.holdoverAct i).mgmt = s.mgmt := by unfold State.holdoverAct; split <;> rfl
  rw [← held]
  unfold State.leaderLostAct
  split
  · rw [signalAcquire_mgmt]; rfl
  · rfl

theorem rampInEndAct_mgmt (i : LaneId) : (s.rampInEndAct i).mgmt = s.mgmt := by
  unfold State.rampInEndAct
  split
  · split <;> rfl
  · rfl

theorem senseAcceptAct_mgmt (i : InputId) : (s.senseAcceptAct i).mgmt = s.mgmt := by
  unfold State.senseAcceptAct
  dsimp only
  split
  · rfl
  · split
    · rfl
    · split
      · exact muteLanes_mgmt
      · rfl

theorem completePlacement_mgmt : s.completePlacement.mgmt = s.mgmt := by
  rcases completePlacement_cases (s := s) with h | ⟨_, _, -, h | ⟨h, -⟩⟩ <;> rw [h] <;> rfl

/-- The end of an item leaves the engine out of RESET_WAIT, if it was out of it. -/
theorem finishItem_phase (st : Status) (data : List Byte) (h : s.mgmt.phase ≠ .resetWait) :
    (s.finishItem st data).mgmt.phase ≠ .resetWait := by
  unfold State.finishItem
  split
  · exact h
  · dsimp only
    split
    · simp
    · simp [State.endExecution]

theorem tryFree_phase (r : RouteId) (h : s.mgmt.phase ≠ .resetWait) : (s.tryFree r).mgmt.phase ≠ .resetWait := by
  have given : (s.giveBack r).mgmt = s.mgmt := by unfold State.giveBack; split <;> rfl
  rcases tryFree_cases (s := s) r with ⟨-, -, -, h'⟩ | ⟨-, h'⟩ <;> rw [h']
  · rw [freeRoute_eq]
    unfold State.withdrawPeek
    split
    · split
      · exact finishItem_phase _ _ (given ▸ h)
      · exact given ▸ h
    · exact given ▸ h
  · exact h

theorem rampEndAct_phase (i : LaneId) (h : s.mgmt.phase ≠ .resetWait) : (s.rampEndAct i).mgmt.phase ≠ .resetWait := by
  have landed : ∀ u : State, (u.landAtRampEnd i).mgmt = u.mgmt := fun u => by
    unfold State.landAtRampEnd State.landRoute
    split
    · rfl
    · dsimp only
      split
      · split <;> rfl
      · rfl
  have left : ∀ l : Lane, (s.leaveTo i l).mgmt = s.mgmt := fun l => (leaveTo_move i l).mgmt
  unfold State.rampEndAct
  split
  · split
    · unfold State.endRamp
      rw [landed]
      dsimp only
      split
      · rw [left]; exact h
      · split
        · exact tryFree_phase _ (left _ ▸ h)
        · rw [left]; exact h
    · exact h
  · exact h

theorem endRamps_phase (h : s.mgmt.phase ≠ .resetWait) : s.endRamps.mgmt.phase ≠ .resetWait := by
  unfold State.endRamps
  generalize allLanes = l
  induction l generalizing s with
  | nil => exact h
  | cons i rest ih => rw [List.foldl_cons]; exact ih (rampEndAct_phase i h)

theorem settle_phase (h : s.mgmt.phase ≠ .resetWait) : s.settle.mgmt.phase ≠ .resetWait := by
  unfold State.settle State.settleUnplaced
  rw [senseAcceptAct_mgmt, senseAcceptAct_mgmt]
  refine endRamps_phase ?_
  rw [foldl_mgmt fun _ i => rampInEndAct_mgmt i, foldl_mgmt fun _ i => lossActs_mgmt i,
    foldl_mgmt fun _ i => filterBlockAct_mgmt i, completePlacement_mgmt]
  exact h

/-! ### Acts that are more than changes -/

/-- R102, R104: a disarm. -/
theorem disarm_events (r : RouteId) : Events k s (s.disarm r) := by
  have abandoned : ∀ u : State, Events k u (u.abandonFor r) := fun u => by
    unfold State.abandonFor
    split
    · rename_i p hp
      split
      · split
        · exact .single (.abandon u p hp)
        · exact .single (.drop u p hp)
      · exact .refl
    · exact .refl
  unfold State.disarm
  split
  · rename_i ht
    have drained : Changes s (allLanes.foldl (fun u i => if (u.lane i).route = some r then u.drainLane i else u)
        (s.modRoute r (fun t => { t with state := .draining }))) := by
      refine Relation.ReflTransGen.head (.drain s r ht) (Changes.foldl (fun u i => ?_) _ _)
      split
      · exact drainLane_changes i
      · exact .refl
    exact (drained.events.trans (abandoned _)).trans (tryFree_changes r).events
  · exact .refl

theorem routeDisarmItem_events (ops : List Byte) : Events k s (routeDisarmItem ops s) := by
  unfold routeDisarmItem
  split
  · exact (finishItem_changes _ _).events
  · exact ((markHandOff_changes _).events.trans (disarm_events _)).trans (finishItem_changes _ _).events

theorem endBurst_events : Events k s s.endBurst := by
  unfold State.endBurst
  split
  · exact .refl
  · rename_i base bytes _
    refine Relation.ReflTransGen.trans (Relation.ReflTransGen.head (.write s base bytes) ?_) arbitrate_changes.events
    split
    · rename_i p hp
      split
      · exact .head (.drop _ p hp) (tryFree_changes _).events
      · exact .single (.written _ p hp)
    · exact .refl
  · exact Relation.ReflTransGen.trans (Changes.events (.single (.aside s _ _ _ _ _ none _ _ _ _))) arbitrate_changes.events

theorem endWindow_events (edges : Nat) : Events k s (s.endWindow edges) := by
  unfold State.endWindow
  dsimp only
  split
  · exact .head (.clock s _) (.single (.change (.raise _ _)))
  · exact .head (.clock s _) (.single (.change (.raise _ _)))
  · exact .single (.clock s _)

theorem clearLatch_changes (i : InputId) : Changes s (s.clearLatch i) := setInput_changes i _

theorem clearNamed_events (named : BitVec 32) : Events .clears s (s.clearNamed named) := by
  unfold State.clearNamed
  dsimp only
  have latch : ∀ (u : State) (b : Bool) (i : InputId), Changes u (if b then u.clearLatch i else u) := fun u b i => by
    cases b
    · exact .refl
    · exact clearLatch_changes i
  have cleared : Events .clears s (s.clearConditions named) := .single (.conds s _)
  exact cleared.trans (Changes.events ((latch _ _ 0).trans (latch _ _ 1)))

theorem conditionsClearItem_events (ops : List Byte) : Events .clears s (conditionsClearItem ops s) :=
  (clearNamed_events _).trans (finishItem_changes _ _).events

theorem conditionsMaskItem_events (ops : List Byte) : Events .masks s (conditionsMaskItem ops s) :=
  .head (.mask s _) (finishItem_changes _ _).events

theorem timebaseSelectItem_events (ops : List Byte) : Events k s (timebaseSelectItem ops s) :=
  .head (.clock s _) (finishItem_changes _ _).events

theorem deviceReset_events : Events .clears s s.deviceReset := .single (.reset s s.time s.pins _ _ _)

theorem deviceResetItem_events (ops : List Byte) : Events .clears s (deviceResetItem ops s) := by
  unfold deviceResetItem
  split
  · split
    · exact (awaitReset_changes _ _).events
    · exact deviceReset_events
  · exact (finishItem_changes _ _).events

theorem endDeparture_events : Events .clears s s.endDeparture := by
  unfold State.endDeparture
  split
  · exact .refl
  · rename_i d _
    dsimp only
    split
    · exact .single (.reset s s.time s.pins (wordsAfterSof d.bytes) _ _)
    · exact Changes.events (transmit_changes _ fun h => ⟨h.ret, h.snd, h.src, h.rep⟩)

theorem runItem_events (q : Request) {body : List Byte → State → State} (h : ∀ ops, Events k s (body ops s)) :
    Events k s (s.runItem q body) := by
  rcases runItem_cases (s := s) q body with hr | hr | hr | ⟨item, _, -, -, -, -, hr⟩
  · rw [hr]
  · rw [hr]; exact (finishItem_changes _ _).events
  · rw [hr]; exact (finishItem_changes _ _).events
  · rw [hr]; exact h _

theorem clockTo_events (now : Time) : Events k s (s.clockTo now) := by
  unfold State.clockTo
  split
  · exact .refl
  · exact .single (.clock s _)

/-! ### A placement's completion (R120) -/

/-- Changes leave the placement in flight as it is. -/
theorem Changes.placement {s t : State} (h : Changes s t) : t.store.placement = s.store.placement := by
  induction h with
  | refl => rfl
  | tail _ hc ih =>
    rw [← ih]
    cases hc with
    | free r _ _ _ => unfold State.giveBack; split <;> rfl
    | _ => rfl

theorem completePlacement_quiet : s.completePlacement.store.quiet = true := by
  unfold State.completePlacement
  split
  · rename_i h; simp [Store.quiet, h]
  · rename_i p hp
    split
    · rename_i h
      simpa [Store.quiet, hp] using h
    · simp [Store.quiet, State.releaseHand]

/-- Once nothing is left to complete, settling makes changes alone. -/
theorem settle_changes_of_quiet (h : s.store.quiet = true) : Changes s s.settle := by
  rw [State.settle, State.completePlacement_of_quiet s h]
  exact settleUnplaced_changes

theorem Changes.quiet {s t : State} (h : Changes s t) (hq : s.store.quiet = true) : t.store.quiet = true := by
  have := h.placement
  simp only [Store.quiet] at hq ⊢
  rw [this]; exact hq

/-! ### A count of the LMC -/

/-- Acts each followed by a settling, on a part with no placement to complete. -/
theorem settled_foldl {α : Type} {f : State → α → State} (hf : ∀ u a, Changes u (f u a)) (l : List α)
    (hq : s.store.quiet = true) : Changes s (l.foldl (fun u a => (f u a).settle) s) := by
  induction l generalizing s with
  | nil => exact .refl
  | cons a rest ih =>
    rw [List.foldl_cons]
    have acted := hf s a
    have settled := acted.trans (settle_changes_of_quiet (Changes.quiet acted hq))
    exact settled.trans (ih (Changes.quiet settled hq))

theorem dueAt_changes (hq : s.store.quiet = true) : Changes s s.dueAt := by
  have timeouts := settled_foldl (f := fun u i => u.timeoutAct i) (fun _ i => timeoutAct_changes i) allSlots hq
  have streams := timeouts.trans
    (settled_foldl (f := fun u i => u.streamDueAct i) (fun _ i => streamDueAct_changes i) allSlots (Changes.quiet timeouts hq))
  have ticked : ∀ u : State, u.store.quiet = true →
      Changes u (if Time.isTick u.time.lmc then (u.tickAct []).settle else u) := fun u hu => by
    split
    · have acted := tickAct_changes (s := u) []
      exact acted.trans (settle_changes_of_quiet (Changes.quiet acted hu))
    · exact .refl
  have ticks := streams.trans (ticked _ (Changes.quiet streams hq))
  have holds := ticks.trans (Changes.foldl (fun _ i => expireHold_changes i) allLanes _)
  unfold State.dueAt State.instantNow
  exact holds.trans (outputInstant_changes _ _ _)

theorem tick_executed : Executed k s s.tick ∨ Executed k s.completePlacement s.tick := by
  unfold State.tick
  split
  · exact .inl (.plain .refl)
  · right
    have settled : Changes s.completePlacement s.settle := settleUnplaced_changes
    have hq : s.settle.store.quiet = true := Changes.quiet settled completePlacement_quiet
    have counted : Events k s.settle ((s.settle.clockTo (s.time.lmc + 1)).monitorEdge) := by
      refine (clockTo_events (s.time.lmc + 1)).trans ?_
      unfold State.monitorEdge
      split
      · exact .single (.clock _ _)
      · exact .refl
    have hq' : ((s.settle.clockTo (s.time.lmc + 1)).monitorEdge).store.quiet = true := by
      unfold State.monitorEdge
      split
      · simpa using hq
      · simpa using hq
    have := (Relation.ReflTransGen.trans (Changes.events settled) counted).trans (Changes.events (dueAt_changes hq'))
    exact .plain (by simpa using this)

/-! ### Every command -/

theorem act_executed {f : State → State} (h : ∀ u, Executed k u (f u)) :
    Executed k s (s.act f) ∨ Executed k s.completePlacement (s.act f) := by
  rcases act_cases (s := s) f with ⟨-, h'⟩ | ⟨-, h'⟩
  · rw [h']; exact .inl (.plain .refl)
  · rw [h']; exact .inr (Executed.after settleUnplaced_changes.events (h _))

theorem actAt_executed {f : State → State} (now : Time) (h : ∀ u, Executed k u (f u)) :
    Executed k s (s.actAt now f) ∨ Executed k s.completePlacement (s.actAt now f) := by
  rcases actAt_cases (s := s) f now with ⟨-, h'⟩ | ⟨-, h'⟩
  · rw [h']; exact .inl (.plain .refl)
  · rw [h']; exact .inr (Executed.after (settleUnplaced_changes.events.trans (clockTo_events now)) (h _))

/-- R193: the end of a departure resets the part only where the engine stands in RESET_WAIT. -/
theorem endDeparture_unreset (h : s.mgmt.phase ≠ .resetWait) : Events k s s.endDeparture := by
  have no : ∀ cls, s.resetFallsDue cls = false := fun cls => by simp [State.resetFallsDue, h]
  unfold State.endDeparture
  split
  · exact .refl
  · dsimp only
    rw [no]
    exact Changes.events (transmit_changes _ fun h => ⟨h.ret, h.snd, h.src, h.rep⟩)

theorem departureEnd_executed : Executed (reachOf .departureEnd s) s (s.act State.endDeparture) ∨
    Executed (reachOf .departureEnd s) s.completePlacement (s.act State.endDeparture) := by
  unfold reachOf
  dsimp only
  split
  · exact act_executed fun _ => .plain endDeparture_events
  · rename_i h
    rcases act_cases (s := s) State.endDeparture with ⟨-, h'⟩ | ⟨-, h'⟩ <;> rw [h']
    · exact .inl (.plain .refl)
    · have settled : Events .raises s.completePlacement s.settle := Changes.events settleUnplaced_changes
      exact .inr (.plain (settled.trans (endDeparture_unreset (settle_phase h))))

theorem followUp_executed {f : State → State} (h : Changes s (f s)) : Executed k s (s.followUp f) := by
  rcases followUp_cases (s := s) f with ⟨-, h'⟩ | ⟨-, h'⟩
  · rw [h']; exact .plain .refl
  · rw [h']; exact h.executed

theorem exec_executed (c : Instr) (s t : State) (h : exec c s = .next t) :
    Executed (reachOf c s) s t ∨ Executed (reachOf c s) s.completePlacement t := by
  have acted : ∀ {k : Reach} {f : State → State}, (∀ u, Changes u (f u)) →
      Executed k s (s.act f) ∨ Executed k s.completePlacement (s.act f) := fun h => act_executed fun u => (h u).executed
  have actedAt : ∀ {k : Reach} {f : State → State} (now : Time), (∀ u, Changes u (f u)) →
      Executed k s (s.actAt now f) ∨ Executed k s.completePlacement (s.actAt now f) := fun now h =>
    actAt_executed now fun u => (h u).executed
  cases c <;> injection h with h <;> subst h
  case powerOnReset => exact .inl (.plain (.single (.reset s _ _ _ _ _)))
  case rstnRelease adr aenpol =>
    left
    unfold State.release
    split
    · exact .plain (.head (.clock s _) (.single (.pins _ _)))
    · exact .plain .refl
  case sofArrival now parity => exact actedAt now fun _ => receiveWord_changes _
  case dataByteArrival word => exact acted fun _ => receiveWord_changes _
  case eofArrival parity => exact acted fun _ => receiveWord_changes _
  case abtArrival parity => exact acted fun _ => receiveWord_changes _
  case badCodeArrival parity code => exact acted fun _ => receiveWord_changes _
  case idleArrival parity => exact acted fun _ => receiveWord_changes _
  case dispatch now => exact actAt_executed now fun _ => dispatchOldest_dispatched.executed
  case filterBlockComplete slot => exact .inl (followUp_executed (filterBlockAct_changes slot))
  case mgmtCopyEnd => exact acted fun _ => endCopy_changes
  case storeBurstEnd => exact act_executed fun _ => .plain endBurst_events
  case placementComplete =>
    rcases followUp_cases (s := s) State.completePlacement with ⟨-, h'⟩ | ⟨-, h'⟩
    · rw [h']; exact .inl (.plain .refl)
    · rw [h']; exact .inr (.plain .refl)
  case departureStart now => exact actedAt now fun _ => startDeparture_changes
  case departureEnd => exact departureEnd_executed
  case txholdAssert => exact .inl (.plain (.single (.pins s _)))
  case txholdRelease => exact .inl (.plain (.single (.pins s _)))
  case outputInstant now sns0 sns1 senseFirst => exact actedAt now fun _ => outputInstant_changes _ _ _
  case rampInEnd lane => exact .inl (followUp_executed (rampInEndAct_changes lane))
  case rampEnd lane => exact .inl (followUp_executed (rampEndAct_changes lane))
  case ampHoldExpiry now lane => exact actedAt now fun _ => expireHold_changes lane
  case senseAccept input => exact .inl (followUp_executed (senseAcceptAct_changes input))
  case monitorWindowEnd edges => exact act_executed fun _ => .plain (endWindow_events edges)
  case tickDue now order => exact actedAt now fun _ => tickAct_changes order
  case streamDue now slot => exact actedAt now fun _ => streamDueAct_changes slot
  case soundingTimeout now slot => exact actedAt now fun _ => timeoutAct_changes slot
  case holdoverEntered slot => exact .inl (followUp_executed (holdoverAct_changes slot))
  case leaderLost slot => exact .inl (followUp_executed (leaderLostAct_changes slot))
  case mgmtFrameBegin => exact acted fun _ => beginFrame_changes
  case unknownRequest => exact acted fun _ => refuseUnknown_changes
  case identify => exact acted fun _ => runItem_changes _ fun _ => finishItem_changes _ _
  case status => exact acted fun _ => runItem_changes _ fun _ => finishItem_changes _ _
  case conditionsClear => exact act_executed fun _ => .plain (runItem_events _ conditionsClearItem_events)
  case conditionsMask => exact act_executed fun _ => .plain (runItem_events _ conditionsMaskItem_events)
  case timebaseSelect => exact act_executed fun _ => .plain (runItem_events _ timebaseSelectItem_events)
  case groupSet now => exact actedAt now fun _ => runItem_changes _ groupSetItem_changes
  case groupClear => exact acted fun _ => runItem_changes _ groupClearItem_changes
  case groupSound => exact acted fun _ => runItem_changes _ groupSoundItem_changes
  case groupMeasure => exact acted fun _ => runItem_changes _ groupMeasureItem_changes
  case routeArm => exact acted fun _ => runItem_changes _ routeArmItem_changes
  case routeDisarm now => exact actAt_executed now fun _ => .plain (runItem_events _ routeDisarmItem_events)
  case routeCounts => exact acted fun _ => runItem_changes _ routeCountsItem_changes
  case laneBind now => exact actedAt now fun _ => runItem_changes _ laneBindItem_changes
  case laneWaitEnd now => exact actedAt now fun _ => endLaneWait_changes
  case laneUnbind now => exact actedAt now fun _ => runItem_changes _ laneUnbindItem_changes
  case laneGain => exact acted fun _ => runItem_changes _ laneGainItem_changes
  case senseAction => exact acted fun _ => runItem_changes _ senseActionItem_changes
  case slotPeek => exact acted fun _ => runItem_changes _ slotPeekItem_changes
  case slotPeekGrant =>
    left
    show Executed _ s (s.actUnplaced State.grantPeek)
    unfold State.actUnplaced
    split
    · exact .plain .refl
    · exact Changes.executed (settleUnplaced_changes.trans grantPeek_changes)
  case pageRuns => exact acted fun _ => runItem_changes _ fun _ => finishItem_changes _ _
  case deviceReset => exact act_executed fun _ => .plain (runItem_events _ deviceResetItem_events)

/-- What a step may do to the conditions. -/
def stepReach (s : State) : Reach :=
  match s.pending with
  | [] => .raises
  | c :: rest => reachOf c { s with pending := rest }

/-- Every step, from the part without the command taken. -/
theorem step_executed {s t : State} (h : step s = .next t) :
    ∃ u : State, u = { s with pending := s.pending.tail } ∧
      (Executed (stepReach s) u t ∨ Executed (stepReach s) u.completePlacement t) := by
  refine ⟨_, rfl, ?_⟩
  unfold step at h
  unfold stepReach
  split at h
  · rename_i hp
    injection h with h
    subst h
    rw [show ({ s with pending := s.pending.tail } : State) = s by rw [hp]; cases s; simp_all]
    exact tick_executed
  · rename_i c rest hp
    rw [hp]
    exact exec_executed c _ t h

end Sys2Proof.Machine
end

section
/-! A law that every act keeps is kept by every step: the acts are the events and, in a placement decision, a route's becoming
LIVE and the beginning of a placement. -/

namespace Sys2Proof.Machine

open Sys2Proof.Safety

variable {s : State}

/-- R119: the entry becomes IN PLACEMENT and the route unit keeps the ingress entry; nothing is granted yet. -/
def State.holdPlacement (p : Placement) (s : State) : State :=
  { s.modRoute p.route (fun t => { t with dir := t.dir.set p.index (.inPlacement p.frame.seq) }) with
    store := { s.store with placement := some p }, rx := { s.rx with hand := some .routeUnit } }

/-- An event, or one of the three acts of a placement decision. -/
inductive Act : State → State → Prop
  | event {s t : State} {k : Reach} (h : Event k s t) : Act s t
  /-- R95: the first frame admitted. -/
  | live (s : State) (r : RouteId) (c : RouteConfig) (rp : Seq) (config : (s.route r).config = some c)
      (armed : (s.route r).state = .armed) : Act s (s.setRoute r { s.route r with state := .live, release := some rp })
  /-- R118: a slide puts the frame newest in the window. -/
  | slide (s : State) (r : RouteId) (c : RouteConfig) (rp q : Seq) (config : (s.route r).config = some c)
      (old : (s.route r).release = some rp) (ahead : (c.depth : Int) ≤ seqDist rp q) :
      Act s (s.setRoute r ((s.route r).moveRelease (q - BitVec.ofNat 16 c.depth + 1)))
  | hold (s : State) (c : RouteConfig) (p : Placement) (at' : AtRoute p.route c s)
      (index : p.index = p.frame.seq.toNat % c.depth) : Act s (s.holdPlacement p)

abbrev Acts : State → State → Prop := Relation.ReflTransGen Act

theorem Events.acts {k : Reach} {s t : State} (h : Events k s t) : Acts s t := Relation.ReflTransGen.mono (fun _ _ h => Act.event h) _ _ h
theorem Changes.acts {s t : State} (h : Changes s t) : Acts s t := Events.acts (k := .raises) h.events

/-- The placement that a frame begins. -/
def placementOf (r : RouteId) (c : RouteConfig) (f : StoredFrame) (data : List Byte) : Placement :=
  { route := r, index := dirIndex c f.seq, frame := f, base := sampleAddress (entryPage c (dirIndex c f.seq) 0) 0
    data := data, written := 0, abandoned := false }

theorem beginPlacement_eq (r : RouteId) (c : RouteConfig) (f : StoredFrame) (data : List Byte) :
    s.beginPlacement r c f data = (s.holdPlacement (placementOf r c f data)).arbitrate := rfl

theorem beginPlacement_acts {r : RouteId} {c : RouteConfig} (h : AtRoute r c s) (f : StoredFrame) (data : List Byte) :
    Acts s (s.beginPlacement r c f data) := by
  rw [beginPlacement_eq]
  exact .head (.hold s c (placementOf r c f data) h rfl) arbitrate_changes.acts

/-- What a placement decision can do to a part whose route has the release point `rp`: the frame is counted and discarded, or
held, after a slide or without one. -/
theorem decidePlacement_cases {r : RouteId} {rp : Seq} (c : RouteConfig) (f : StoredFrame) (data : List Byte) :
    (∃ k, s.decidePlacement r c rp f data = ((s.bump r k).raise .frameLate).releaseHand ∧ seqDist rp f.seq < 0) ∨
    (∃ k, s.decidePlacement r c rp f data = ((s.bump r k).raise .frameAhead).releaseHand ∧ (c.depth : Int) ≤ seqDist rp f.seq) ∨
    (∃ k g, s.decidePlacement r c rp f data = (s.bump r k).releaseHand ∧ 0 ≤ seqDist rp f.seq ∧
      (s.route r).dir.getD (dirIndex c f.seq) .invalid = .valid g) ∨
    (s.decidePlacement r c rp f data = s.beginPlacement r c f data ∧ 0 ≤ seqDist rp f.seq ∧ seqDist rp f.seq < c.depth) ∨
    ((c.depth : Int) ≤ seqDist rp f.seq ∧ s.decidePlacement r c rp f data =
      (s.setRoute r ((s.route r).moveRelease (f.seq - BitVec.ofNat 16 c.depth + 1))).beginPlacement r c f data) := by
  unfold State.decidePlacement
  dsimp only
  split
  · rename_i h; exact .inl ⟨_, rfl, h⟩
  · rename_i h0
    split
    · rename_i hd
      split
      · exact .inr (.inl ⟨_, rfl, hd⟩)
      · exact .inr (.inr (.inr (.inr ⟨hd, rfl⟩)))
    · rename_i hd
      have h0' : 0 ≤ seqDist rp f.seq := not_lt.mp h0
      have begun : (∃ k g, s.beginPlacement r c f data = (s.bump r k).releaseHand ∧ 0 ≤ seqDist rp f.seq ∧
          (s.route r).dir.getD (dirIndex c f.seq) .invalid = .valid g) ∨
          (s.beginPlacement r c f data = s.beginPlacement r c f data ∧ 0 ≤ seqDist rp f.seq ∧ seqDist rp f.seq < c.depth) ∨
          ((c.depth : Int) ≤ seqDist rp f.seq ∧ s.beginPlacement r c f data =
            (s.setRoute r ((s.route r).moveRelease (f.seq - BitVec.ofNat 16 c.depth + 1))).beginPlacement r c f data) :=
        .inr (.inl ⟨rfl, h0', not_le.mp hd⟩)
      split
      · rename_i g hg
        split
        · exact .inr (.inr (.inl ⟨_, g, rfl, h0', hg⟩))
        · exact .inr (.inr begun)
      · exact .inr (.inr begun)

/-- R118: a slide moves the release point forward, where the depth is one that R91 gives. -/
theorem slide_ahead {rp q : Seq} {d : Nat} (hd : 8 ≤ d ∧ d ≤ 64) (h : (d : Int) ≤ seqDist rp q) :
    0 < seqDist rp (q - BitVec.ofNat 16 d + 1) ∧ seqDist (q - BitVec.ofNat 16 d + 1) q = d - 1 := by
  unfold seqDist at *
  have one : (1 : Seq).toNat = 1 := rfl
  have depth : (BitVec.ofNat 16 d : Seq).toNat = d := by simp; omega
  rw [BitVec.toInt_eq_toNat_cond] at h ⊢
  rw [BitVec.toInt_eq_toNat_cond]
  simp only [BitVec.toNat_sub, BitVec.toNat_add, depth, one] at *
  have := rp.isLt
  have := q.isLt
  constructor <;> split_ifs at h ⊢ <;> omega

theorem goLive_eq (r : RouteId) (c : RouteConfig) (q : Seq) :
    (s.route r).state ≠ .armed ∧ s.modRoute r (Route.goLive c q) = s ∨ (s.route r).state = .armed ∧ s.modRoute r (Route.goLive c q) =
      s.setRoute r { s.route r with state := .live, release := some (q - BitVec.ofNat 16 (c.depth / 4)) } := by
  unfold State.modRoute Route.goLive
  split
  · rename_i h; exact .inr ⟨h, rfl⟩
  · rename_i h
    left
    exact ⟨h, by simp [State.setRoute, State.route]⟩

/-- A placement decision is a run of acts. -/
theorem place_acts {r : RouteId} {c : RouteConfig} (h : AtRoute r c s) (f : StoredFrame) (bs : List Byte) :
    Acts s (s.place r c f bs) := by
  have lived : Acts s (s.modRoute r (Route.goLive c f.seq)) ∧ AtRoute r c (s.modRoute r (Route.goLive c f.seq)) := by
    rcases goLive_eq (s := s) r c f.seq with ⟨-, h'⟩ | ⟨harmed, h'⟩
    · rw [h']; exact ⟨.refl, h⟩
    · rw [h']
      exact ⟨.single (.live s r c _ h.config harmed), h.desk.of_rx rfl, by simpa using h.config, by simp [Route.taking]⟩
  obtain ⟨hacts, hat⟩ := lived
  unfold State.place
  dsimp only
  generalize s.modRoute r (Route.goLive c f.seq) = u at hacts hat
  refine hacts.trans ?_
  split
  · rename_i rp hrp
    rcases decidePlacement_cases (rp := rp) c f (storedData bs) with ⟨k, h', -⟩ | ⟨k, h', -⟩ | ⟨k, g, h', -, -⟩ | ⟨h', -, -⟩ | ⟨hge, h'⟩ <;> rw [h']
    · exact (hat.desk.discarded_after ((bump_changes r _).tail (.raise _ _)) rfl).acts
    · exact (hat.desk.discarded_after ((bump_changes r _).tail (.raise _ _)) rfl).acts
    · exact (hat.desk.discarded_after (bump_changes r _) rfl).acts
    · exact beginPlacement_acts hat f _
    · have slid : AtRoute r c (u.setRoute r ((u.route r).moveRelease (f.seq - BitVec.ofNat 16 c.depth + 1))) :=
        ⟨hat.desk.of_rx rfl, by simpa [Route.moveRelease] using hat.config, by simpa [Route.taking, Route.moveRelease] using hat.taking⟩
      exact .head (.slide u r c rp _ hat.config hrp hge) (beginPlacement_acts slid f _)
  · exact hat.desk.discarded.acts

end Sys2Proof.Machine
end

section
/-! The rule by which a law is proved of every step: the act of each kind keeps it, and so does a
placement's settling. -/

namespace Sys2Proof.Machine

open Sys2Proof.Safety

variable {s : State}

/-- A law that acts keep is kept by a run of them. -/
theorem Acts.keep {P : State → Prop} (act : ∀ {s t : State}, Act s t → P s → P t) {s t : State} (h : Acts s t) (hs : P s) :
    P t := by
  induction h with
  | refl => exact hs
  | tail _ h ih => exact act h ih

theorem Executed.keep {P : State → Prop} (act : ∀ {s t : State}, Act s t → P s → P t) {k : Reach} {s t : State} (h : Executed k s t)
    (hs : P s) : P t := by
  cases h with
  | plain h => exact Acts.keep act h.acts hs
  | placed h r c f bs _ at' => exact Acts.keep act (h.acts.trans (place_acts at' f bs)) hs

/-- A law that acts keep and the settling of a placement keeps, whatever the queue of commands, is kept by every step. -/
theorem step_keep {P : State → Prop} (queue : ∀ (s : State) (q : List Instr), P s → P { s with pending := q })
    (act : ∀ {s t : State}, Act s t → P s → P t)
    (settle : ∀ (s : State) (p : Placement) (e : DirEntry) (k : RouteCounters), s.store.placement = some p → P s →
      P (s.settlePlacement p e k)) {s t : State} (h : step s = .next t) (hs : P s) : P t := by
  obtain ⟨u, rfl, hu⟩ := step_executed h
  have hq := queue s s.pending.tail hs
  rcases hu with hu | hu
  · exact hu.keep act hq
  · refine hu.keep act ?_
    rcases completePlacement_cases (s := { s with pending := s.pending.tail }) with h | ⟨p, k, hp, h | ⟨h, -⟩⟩ <;> rw [h]
    · exact hq
    · exact act (.event (k := .raises) (.change (.raise _ _))) (settle _ p _ k hp hq)
    · exact settle _ p _ k hp hq

end Sys2Proof.Machine
end

section
/-! O55: the store memory stays canonical, and the page map in accord with the routes. -/

namespace Sys2Proof.Machine

open Sys2Proof.Safety

variable {s : State}

theorem memoryCanonical_act {s t : State} (h : Act s t) (hs : MemoryCanonical s) : MemoryCanonical t := by
  cases h with
  | live | slide | hold => exact hs
  | event h =>
    cases h with
    | write _ base bytes => exact Memory.write_wf _ _ _ hs
    | clock | pins | mask | conds | written | abandon | drop | reset => exact hs
    | change h =>
      cases h with
      | free r _ _ _ =>
        unfold MemoryCanonical State.giveBack
        split <;> exact hs
      | raise | aside | queue | transmit | receive | slot | regroup | lane | note | release | drain | arm => exact hs

/-- R88, R110. -/
def PageLaw (s : State) : Prop := PagesLegal s ∧ RoutesConfigured s

/-- The page law speaks of the page map, and of each route only through its run of pages and whether it is FREE. -/
theorem PageLaw.of_runs {s t : State} (h : PageLaw s) (pages : t.store.pages = s.store.pages)
    (runs : ∀ r p, (∃ c, (t.route r).config = some c ∧ inRun c p) ↔ ∃ c, (s.route r).config = some c ∧ inRun c p)
    (unset : ∀ r, (t.route r).config = none ↔ (s.route r).config = none)
    (free : ∀ r, (t.route r).state = .free ↔ (s.route r).state = .free) : PageLaw t := by
  obtain ⟨⟨size, owned⟩, configured⟩ := h
  refine ⟨⟨pages ▸ size, fun r p => ?_⟩, fun r => ?_⟩
  · rw [pages, owned, runs]
  · rw [free, configured, unset]

theorem PageLaw.congr {s t : State} (h : PageLaw s) (pages : t.store.pages = s.store.pages)
    (config : ∀ r, (t.route r).config = (s.route r).config) (free : ∀ r, (t.route r).state = .free ↔ (s.route r).state = .free) :
    PageLaw t :=
  h.of_runs pages (fun r p => by rw [config]) (fun r => by rw [config]) free

/-- One route's record is replaced, its configuration kept. -/
theorem PageLaw.setRoute (h : PageLaw s) {r : RouteId} {x : Route} (config : x.config = (s.route r).config)
    (free : x.state = .free ↔ (s.route r).state = .free) : PageLaw (s.setRoute r x) := by
  refine h.congr rfl (fun q => ?_) fun q => ?_ <;> rw [State.setRoute_route] <;> split
  · rename_i hq; rw [hq, config]
  · rfl
  · rename_i hq; rw [hq, free]
  · rfl

/-- R105 keeps a route's run of pages. -/
theorem turnToSink_run (i : SlotId) (t : Route) (p : Nat) :
    (∃ c, (t.turnToSink i).config = some c ∧ inRun c p) ↔ ∃ c, t.config = some c ∧ inRun c p := by
  unfold Route.turnToSink
  split
  · rename_i c hc
    split
    · simp [hc, inRun]
    · rw [hc]
  · rfl

theorem turnToSink_config_none (i : SlotId) (t : Route) : (t.turnToSink i).config = none ↔ t.config = none := by
  unfold Route.turnToSink
  split
  · rename_i c hc
    split <;> simp [hc]
  · rfl

@[simp] theorem turnToSink_state (i : SlotId) (t : Route) : (t.turnToSink i).state = t.state := by
  unfold Route.turnToSink; split
  · split <;> rfl
  · rfl

@[simp] theorem turnRoutes_route (i : SlotId) (r : RouteId) : (s.turnRoutes i).route r = (s.route r).turnToSink i := by
  simp [State.turnRoutes, State.route]

/-- R112: what a route's pages are once they have been given back. -/
theorem PageLaw.run_freed (h : PageLaw s) {r : RouteId} {c : RouteConfig} (hc : (s.route r).config = some c) :
    let freed := fillRun s.store.pages c.firstPage (c.depth * c.slotPages) none
    freed.length = 1024 ∧ ∀ p, freed[p]? = if c.firstPage ≤ p ∧ p < c.firstPage + c.depth * c.slotPages then some none else s.store.pages[p]? := by
  obtain ⟨⟨size, owned⟩, -⟩ := h
  rcases Nat.eq_zero_or_pos (c.depth * c.slotPages) with hz | pos
  · rw [hz]
    refine ⟨by simp [fillRun, size], fun p => ?_⟩
    rw [if_neg (by omega)]
    simp [fillRun]
  · have last := (owned r (c.firstPage + c.depth * c.slotPages - 1)).mpr ⟨c, hc, by omega, by omega⟩
    obtain ⟨hlt, -⟩ := List.getElem?_eq_some_iff.mp last
    have inside : c.firstPage + c.depth * c.slotPages ≤ s.store.pages.length := by omega
    exact ⟨(fillRun_length _ _ _ _ inside).trans size, fun p => fillRun_get _ _ _ _ _ inside⟩

/-- R110: a page has one owner. -/
theorem PageLaw.owner_unique (h : PageLaw s) {q r : RouteId} {c c' : RouteConfig} {p : Nat}
    (hq : (s.route q).config = some c) (hr : (s.route r).config = some c') (pq : inRun c p) (pr : inRun c' p) : q = r := by
  have h1 := (h.1.owned q p).mpr ⟨c, hq, pq⟩
  have h2 := (h.1.owned r p).mpr ⟨c', hr, pr⟩
  rw [h1] at h2
  injection h2 with h2
  injection h2

/-- R103, R112: a route becomes FREE. -/
theorem PageLaw.giveBack (h : PageLaw s) (r : RouteId) : PageLaw (s.giveBack r) := by
  unfold State.giveBack
  cases hc : (s.route r).config with
  | none => exact h.setRoute hc.symm ⟨fun _ => (h.2 r).mpr hc, fun _ => rfl⟩
  | some c =>
    obtain ⟨size, pages⟩ := h.run_freed hc
    refine ⟨⟨size, fun q p => ?_⟩, fun q => ?_⟩ <;> dsimp only <;> rw [State.modRoute_route]
    · show (fillRun _ _ _ _)[p]? = _ ↔ _
      rw [pages]
      by_cases hq : q = r
      · subst hq
        have gone : ¬ ∃ c', (Route.unused).config = some c' ∧ inRun c' p := fun ⟨c', h', _⟩ => by cases h'
        refine ⟨fun hp => ?_, fun hp => absurd (by simpa using hp) gone⟩
        split at hp
        · cases hp
        · rename_i out
          obtain ⟨c', hc', hin⟩ := (h.1.owned q p).mp hp
          rw [hc] at hc'; injection hc' with hc'
          exact absurd (hc' ▸ hin) out
      · rw [if_neg hq, State.ownPages_route, ← h.1.owned]
        split
        · rename_i hin
          refine ⟨fun hp => (by cases hp), fun hp => ?_⟩
          obtain ⟨c', hc', hin'⟩ := (h.1.owned q p).mp hp
          exact absurd (h.owner_unique hc' hc hin' hin) hq
        · rfl
    · split
      · simp [Route.unused]
      · exact h.2 q

/-- R92, R110: a FREE route takes a run of free pages. -/
theorem PageLaw.armRoute (h : PageLaw s) {r : RouteId} {c : RouteConfig} (a : Armable r c s) : PageLaw (s.armRoute r c) := by
  unfold State.armRoute
  have unset := (h.2 r).mp a.free
  have unowned : ∀ (q : RouteId) p, inRun c p → s.store.pages[p]? ≠ some (some q) := fun q p hin hp => by
    have := a.pages (p - c.firstPage) (by unfold inRun at hin; omega)
    rw [show c.firstPage + (p - c.firstPage) = p by unfold inRun at hin; omega, hp] at this
    injection this with this; cases this
  refine ⟨⟨(fillRun_length _ _ _ _ a.inside).trans h.1.size, fun q p => ?_⟩, fun q => ?_⟩ <;> rw [State.setRoute_route]
  · show (fillRun _ _ _ _)[p]? = _ ↔ _
    rw [fillRun_get _ _ _ _ _ a.inside]
    by_cases hq : q = r
    · subst hq
      rw [if_pos rfl]
      split
      · rename_i hin
        exact ⟨fun _ => ⟨c, rfl, hin⟩, fun _ => rfl⟩
      · rename_i out
        refine ⟨fun hp => ?_, fun ⟨c', hc', hin⟩ => ?_⟩
        · obtain ⟨c', hc', -⟩ := (h.1.owned q p).mp hp
          rw [unset] at hc'; cases hc'
        · injection hc' with hc'
          exact absurd (hc' ▸ hin) out
    · rw [if_neg hq, State.ownPages_route, ← h.1.owned]
      split
      · rename_i hin
        refine ⟨fun hp => ?_, fun hp => absurd hp (unowned q p hin)⟩
        injection hp with hp
        injection hp with hp
        exact absurd hp.symm hq
      · rfl
  · split
    · simp [Route.armed]
    · exact h.2 q

theorem PageLaw.change {t : State} (h : PageLaw s) (hc : Change s t) : PageLaw t := by
  cases hc with
  | regroup i g _ =>
    exact h.of_runs rfl (fun r p => by simpa using turnToSink_run i (s.route r) p)
      (fun r => by simpa using turnToSink_config_none i (s.route r)) fun r => by simp
  | note => exact h.setRoute rfl Iff.rfl
  | release => exact h.setRoute rfl Iff.rfl
  | drain r taking => exact h.setRoute rfl ⟨fun h' => (by cases h'), fun h' => absurd h' (taking_ne_free taking)⟩
  | free r _ _ _ => exact h.giveBack r
  | arm r c a => exact h.armRoute a
  | raise | aside | queue | transmit | receive | slot | lane => exact h.congr rfl (fun _ => rfl) fun _ => .rfl

/-- R88, R110: the part after reset. -/
theorem pageLaw_of_reset {t : State} (routes : t.routes = State.reset.routes) (pages : t.store.pages = List.replicate Config.pages none) :
    PageLaw t := by
  have route : ∀ r : RouteId, t.route r = Route.unused := fun r => by simp [State.route, routes, State.reset]
  refine ⟨⟨by rw [pages, List.length_replicate]; rfl, fun r p => ?_⟩, fun r => by rw [route]; exact ⟨fun _ => rfl, fun _ => rfl⟩⟩
  rw [pages, route, List.getElem?_replicate]
  constructor
  · intro h
    split at h <;> cases h
  · rintro ⟨_, h, _⟩; cases h

theorem PageLaw.settlePlacement (h : PageLaw s) (p : Placement) (e : DirEntry) (k : RouteCounters) :
    PageLaw (s.settlePlacement p e k) := by
  have kept := h.setRoute (r := p.route)
    (x := { s.route p.route with dir := (s.route p.route).dir.set p.index e, counters := k }) rfl Iff.rfl
  exact kept.congr rfl (fun _ => rfl) fun _ => .rfl

theorem PageLaw.act {s t : State} (ha : Act s t) (h : PageLaw s) : PageLaw t := by
  cases ha with
  | live r c rp _ armed =>
    exact h.setRoute rfl ⟨fun h' => (by cases h'), fun h' => by rw [armed] at h'; cases h'⟩
  | slide => exact h.setRoute rfl Iff.rfl
  | hold c p _ _ =>
    have kept := h.setRoute (r := p.route)
      (x := { s.route p.route with dir := (s.route p.route).dir.set p.index (.inPlacement p.frame.seq) }) rfl Iff.rfl
    exact kept.congr rfl (fun _ => rfl) fun _ => .rfl
  | event h' =>
    cases h' with
    | change h' => exact h.change h'
    | drop _ p _ => exact h.settlePlacement p .invalid (s.route p.route).counters
    | reset => exact pageLaw_of_reset rfl rfl
    | clock | pins | mask | conds | write | written | abandon => exact h.congr rfl (fun _ => rfl) fun _ => .rfl

end Sys2Proof.Machine

namespace Sys2Proof.Proofs

open Sys2Proof.Machine Sys2Proof.Safety

/-- Settles O55: each kind of act keeps the memory canonical, and the page map in accord with the routes. -/
theorem storeStaysLegal : Obligations.StoreStaysLegal := by
  unfold Obligations.StoreStaysLegal
  intro s t h
  refine ⟨step_keep (fun _ _ h => h) memoryCanonical_act (fun _ _ _ _ _ h => h) h, fun hp hr => ?_⟩
  exact step_keep (P := PageLaw) (fun _ _ h => h.congr rfl (fun _ => rfl) fun _ => .rfl) PageLaw.act (fun _ p e k _ h => h.settlePlacement p e k) h ⟨hp, hr⟩

end Sys2Proof.Proofs
end

section
/-! O57: the lanes' records and bindings stay legal. -/

namespace Sys2Proof.Safety

open Sys2Proof.Machine

variable {s : State}

/-- The law of the lanes speaks of the lanes, and of the routes only through which are FREE. -/
theorem LanesLegal.congr {s t : State} (h : LanesLegal s) (lanes : t.lanes = s.lanes)
    (free : ∀ r, (s.route r).state ≠ .free → (t.route r).state ≠ .free) : LanesLegal t := by
  have lane : ∀ i, t.lane i = s.lane i := fun i => by simp only [State.lane, lanes]
  exact ⟨fun i => lane i ▸ h.record i, fun i r hr => free r (h.bound i r (lane i ▸ hr))⟩

/-- One route's record is replaced by one that is not FREE. -/
theorem LanesLegal.setRoute (h : LanesLegal s) {r : RouteId} {x : Route}
    (free : (s.route r).state ≠ .free → x.state ≠ .free) : LanesLegal (s.setRoute r x) := by
  refine h.congr rfl fun q hq => ?_
  rw [State.setRoute_route]
  split
  · rename_i hqr; exact free (hqr ▸ hq)
  · exact hq

theorem unbound_lane {r : RouteId} (h : s.hasLane r = false) (i : LaneId) : (s.lane i).route ≠ some r := by
  unfold State.hasLane allLanes at h
  simp only [List.any_cons, List.any_nil, Bool.or_eq_false_iff, beq_eq_false_iff_ne] at h
  obtain ⟨h0, h1, h2, h3, -⟩ := h
  revert i
  exact Fin.forall_fin_succ.mpr ⟨h0, Fin.forall_fin_succ.mpr ⟨h1, Fin.forall_fin_succ.mpr ⟨h2, Fin.forall_fin_succ.mpr ⟨h3,
    fun i => i.elim0⟩⟩⟩⟩

theorem giveBack_route_ne {r q : RouteId} (h : q ≠ r) : (s.giveBack r).route q = s.route q := by
  unfold State.giveBack
  rw [State.modRoute_route, if_neg h]
  split <;> rfl

theorem giveBack_lanes (r : RouteId) : (s.giveBack r).lanes = s.lanes := by
  unfold State.giveBack
  split <;> rfl

theorem LanesLegal.giveBack (h : LanesLegal s) {r : RouteId} (unbound : s.hasLane r = false) : LanesLegal (s.giveBack r) := by
  have lane : ∀ i, (s.giveBack r).lane i = s.lane i := fun i => by simp only [State.lane, giveBack_lanes]
  refine ⟨fun i => lane i ▸ h.record i, fun i q hq => ?_⟩
  rw [lane] at hq
  have hne : q ≠ r := fun hqr => unbound_lane unbound i (hqr ▸ hq)
  rw [giveBack_route_ne hne]
  exact h.bound i q hq

theorem LanesLegal.setLane (h : LanesLegal s) {i : LaneId} {l : Lane} (legal : laneLegal l = true)
    (bound : ∀ r, l.route = some r → (s.route r).state ≠ .free) : LanesLegal (s.setLane i l) := by
  refine ⟨fun j => ?_, fun j r hr => ?_⟩
  · rw [State.setLane_lane]
    split
    · exact legal
    · exact h.record j
  · rw [State.setLane_lane] at hr
    rw [State.setLane_route]
    split at hr
    · exact bound r hr
    · exact h.bound j r hr

theorem LanesLegal.change {t : State} (h : LanesLegal s) (hc : Change s t) : LanesLegal t := by
  cases hc with
  | regroup i g _ => exact h.congr rfl fun r hr => by simpa using hr
  | note => exact h.setRoute id
  | release => exact h.setRoute id
  | drain r taking => exact h.setRoute fun _ => by simp
  | free r _ unbound _ => exact h.giveBack unbound
  | arm r c a =>
    have armed : LanesLegal (s.setRoute r (Route.armed c)) := h.setRoute fun _ => by simp [Route.armed]
    exact armed.congr rfl fun _ => id
  | lane i l legal bound =>
    refine h.setLane (legal (h.record i)) fun r hr => ?_
    rcases bound r hr with hr | hr
    · exact h.bound i r hr
    · exact hr
  | raise | aside | queue | transmit | receive | slot => exact h.congr rfl fun _ => id

theorem LanesLegal.of_reset {t : State} (lanes : t.lanes = State.reset.lanes) : LanesLegal t := by
  have lane : ∀ i, t.lane i = Lane.afterReset := fun i => by simp [State.lane, lanes, State.reset]
  exact ⟨fun i => by rw [lane]; rfl, fun i r hr => by rw [lane] at hr; cases hr⟩

theorem LanesLegal.settlePlacement (h : LanesLegal s) (p : Placement) (e : DirEntry) (k : RouteCounters) :
    LanesLegal (s.settlePlacement p e k) := by
  have kept := h.setRoute (r := p.route)
    (x := { s.route p.route with dir := (s.route p.route).dir.set p.index e, counters := k }) id
  exact kept.congr rfl fun _ => id

theorem LanesLegal.act {s t : State} (ha : Act s t) (h : LanesLegal s) : LanesLegal t := by
  cases ha with
  | live => exact h.setRoute fun _ => by simp
  | slide => exact h.setRoute id
  | hold c p _ _ =>
    have kept := h.setRoute (r := p.route)
      (x := { s.route p.route with dir := (s.route p.route).dir.set p.index (.inPlacement p.frame.seq) }) id
    exact kept.congr rfl fun _ => id
  | event h' =>
    cases h' with
    | change h' => exact h.change h'
    | drop _ p _ => exact h.settlePlacement p .invalid (s.route p.route).counters
    | reset => exact .of_reset rfl
    | clock | pins | mask | conds | write | written | abandon => exact h.congr rfl fun _ => id

end Sys2Proof.Safety

namespace Sys2Proof.Proofs

open Sys2Proof.Machine Sys2Proof.Safety

/-- Settles O57: each kind of act keeps the lanes' records, and lets no bound route become FREE. -/
theorem lanesStayLegal : Obligations.LanesStayLegal := by
  unfold Obligations.LanesStayLegal
  intro s t hs h
  exact step_keep (fun _ _ h => h.congr rfl fun _ => id) LanesLegal.act (fun _ p e k _ h => h.settlePlacement p e k) h hs

end Sys2Proof.Proofs
end

section
/-! O58: the queues stay within their capacities, and the ingress queue, the hand and the receiver in accord. -/

namespace Sys2Proof.Safety

open Sys2Proof.Machine

variable {s : State}

/-- What the capacities say of the transmitter is `TxFits`. -/
theorem WithinCapacity.tx_fits (h : WithinCapacity s) : TxFits s.tx := ⟨h.ret, h.snd, h.src, h.rep⟩

theorem WithinCapacity.of_parts {t : State} (ingress : t.rx.ingress.length ≤ 4) (tx : TxFits t.tx)
    (mgmt : t.mgmt.queue.length ≤ 2) (history : ∀ i : SlotId, (t.slot i).history.length ≤ 8) : WithinCapacity t :=
  ⟨ingress, tx.ret, tx.snd, tx.src, tx.rep, mgmt, history⟩

/-- The capacities speak of the queues alone. -/
theorem WithinCapacity.congr {t : State} (h : WithinCapacity s) (rx : t.rx.ingress.length ≤ s.rx.ingress.length)
    (tx : t.tx = s.tx) (queue : t.mgmt.queue = s.mgmt.queue) (slots : t.slots = s.slots) : WithinCapacity t := by
  have slot : ∀ i, t.slot i = s.slot i := fun i => by simp only [State.slot, slots]
  exact .of_parts (rx.trans h.ingress) (tx ▸ h.tx_fits) (queue ▸ h.mgmt) fun i => slot i ▸ h.history i

theorem WithinCapacity.setSlot (h : WithinCapacity s) {i : SlotId} {g : GroupSlot} (fits : SlotFits i g s) :
    WithinCapacity (s.setSlot i g) := by
  refine .of_parts h.ingress h.tx_fits h.mgmt fun j => ?_
  rw [State.setSlot_slot]
  split
  · exact fits.history (h.history i)
  · exact h.history j

theorem giveBack_eq (r : RouteId) : ∃ pages routes, s.giveBack r = { s with store := { s.store with pages := pages }, routes := routes } := by
  unfold State.giveBack
  split <;> exact ⟨_, _, rfl⟩

theorem WithinCapacity.change {t : State} (h : WithinCapacity s) (hc : Change s t) : WithinCapacity t := by
  cases hc with
  | slot i g fits _ => exact h.setSlot fits
  | regroup i g fits => exact (h.setSlot fits).congr (le_refl _) rfl rfl rfl
  | queue q fits => exact .of_parts h.ingress h.tx_fits (fits h.mgmt) h.history
  | transmit tx fits => exact .of_parts h.ingress (fits h.tx_fits) h.mgmt h.history
  | receive rx fits _ => exact .of_parts (fits h.ingress) h.tx_fits h.mgmt h.history
  | free r _ _ _ =>
    obtain ⟨_, _, h'⟩ := giveBack_eq (s := s) r
    rw [h']
    exact h.congr (le_refl _) rfl rfl rfl
  | raise | aside | lane | note | release | drain | arm => exact h.congr (le_refl _) rfl rfl rfl

theorem WithinCapacity.of_reset {t : State} (rx : t.rx = State.reset.rx) (tx : ∃ w, t.tx = { State.reset.tx with words := w })
    (mgmt : t.mgmt = State.reset.mgmt) (slots : t.slots = State.reset.slots) : WithinCapacity t := by
  have slot : ∀ i, t.slot i = GroupSlot.unused := fun i => by simp [State.slot, slots, State.reset]
  obtain ⟨w, tx⟩ := tx
  refine .of_parts ?_ ?_ ?_ fun i => ?_
  · rw [rx]; exact Nat.zero_le 4
  · rw [tx]; exact ⟨Nat.zero_le 4, List.nodup_nil, Nat.zero_le 4, Nat.zero_le 1⟩
  · rw [mgmt]; exact Nat.zero_le 2
  · rw [slot]; exact Nat.zero_le 8

theorem WithinCapacity.settlePlacement (h : WithinCapacity s) (p : Placement) (e : DirEntry) (k : RouteCounters) :
    WithinCapacity (s.settlePlacement p e k) :=
  h.congr (List.tail_sublist _).length_le rfl rfl rfl

theorem WithinCapacity.act {s t : State} (ha : Act s t) (h : WithinCapacity s) : WithinCapacity t := by
  cases ha with
  | live | slide | hold => exact h.congr (le_refl _) rfl rfl rfl
  | event h' =>
    cases h' with
    | change h' => exact h.change h'
    | drop _ p _ => exact h.settlePlacement p .invalid (s.route p.route).counters
    | reset => exact .of_reset rfl ⟨_, rfl⟩ rfl rfl
    | clock | pins | mask | conds | write | written | abandon => exact h.congr (le_refl _) rfl rfl rfl

/-- The law of the receiver speaks of the receiver, and of whether a placement is in flight. -/
theorem ReceiverLegal.congr {t : State} (h : ReceiverLegal s) (rx : t.rx = s.rx)
    (placing : t.store.placement.isSome = s.store.placement.isSome) : ReceiverLegal t :=
  ⟨rx ▸ h.outside, rx ▸ h.inside, rx ▸ h.hand, by rw [rx, placing]; exact h.placing⟩

/-- R7: the oldest entry, which is COMPLETE, leaves the queue. -/
theorem ReceiverLegal.settlePlacement (h : ReceiverLegal s) {p : Placement} (hp : s.store.placement = some p) (e : DirEntry)
    (k : RouteCounters) : ReceiverLegal (s.settlePlacement p e k) := by
  have held := h.placing.mpr (by rw [hp]; rfl)
  obtain ⟨x, rest, hq, hx⟩ := h.hand _ held
  have tail : (s.settlePlacement p e k).rx.ingress = rest := by
    show s.rx.ingress.tail = rest
    rw [hq]; rfl
  refine ⟨fun ho e he => ?_, fun hi => ?_, fun o ho => (by cases ho), ⟨fun ho => (by cases ho), fun hp => (by cases hp)⟩⟩
  · rw [tail] at he
    exact h.outside ho e (by rw [hq]; exact List.mem_cons_of_mem _ he)
  · obtain ⟨pre, y, hpre, hy, hall⟩ := h.inside hi
    rw [tail]
    rw [hq] at hpre
    cases pre with
    | nil => injection hpre with h1 _; rw [h1, hy] at hx; cases hx
    | cons a pre =>
      injection hpre with _ h2
      exact ⟨pre, y, h2, hy, fun z hz => hall z (List.mem_cons_of_mem _ hz)⟩

theorem ReceiverLegal.change {t : State} (h : ReceiverLegal s) (hc : Change s t) : ReceiverLegal t := by
  cases hc with
  | receive rx _ legal => exact legal h
  | free r _ _ _ =>
    obtain ⟨_, _, h'⟩ := giveBack_eq (s := s) r
    rw [h']
    exact h.congr rfl rfl
  | raise | aside | queue | transmit | slot | regroup | lane | note | release | drain | arm => exact h.congr rfl rfl

theorem ReceiverLegal.of_reset {t : State} (rx : t.rx = State.reset.rx) (store : t.store.placement = none) : ReceiverLegal t := by
  refine ⟨fun _ e he => ?_, fun hi => ?_, fun o ho => ?_, ⟨fun ho => ?_, fun hp => ?_⟩⟩
  · rw [rx] at he; cases he
  · rw [rx] at hi; cases hi
  · rw [rx] at ho; cases ho
  · rw [rx] at ho; cases ho
  · rw [store] at hp; cases hp

theorem ReceiverLegal.act {s t : State} (ha : Act s t) (h : ReceiverLegal s) : ReceiverLegal t := by
  cases ha with
  | live | slide => exact h.congr rfl rfl
  | hold c p at' _ => exact ⟨h.outside, h.inside, fun _ _ => at'.desk.oldest, ⟨fun _ => rfl, fun _ => rfl⟩⟩
  | event h' =>
    cases h' with
    | change h' => exact h.change h'
    | drop _ p hp => exact h.settlePlacement hp .invalid (s.route p.route).counters
    | reset => exact .of_reset rfl rfl
    | written _ p hp => exact h.congr rfl (by rw [hp]; rfl)
    | abandon _ p hp => exact h.congr rfl (by rw [hp]; rfl)
    | clock | pins | mask | conds | write => exact h.congr rfl rfl

end Sys2Proof.Safety

namespace Sys2Proof.Proofs

open Sys2Proof.Machine Sys2Proof.Safety

/-- Settles O58: each kind of act keeps the capacities, and the receiver in accord with its queue. -/
theorem queuesStayLegal : Obligations.QueuesStayLegal := by
  unfold Obligations.QueuesStayLegal
  intro s t h
  refine ⟨step_keep (fun _ _ h => h.congr (le_refl _) rfl rfl rfl) WithinCapacity.act (fun _ p e k _ h => h.settlePlacement p e k) h,
    step_keep (fun _ _ h => h.congr rfl rfl) ReceiverLegal.act (fun _ p e k hp h => h.settlePlacement hp e k) h⟩

end Sys2Proof.Proofs
end

section
/-! O56: the slots stay legal, in range and distinct, and SOURCE routes stand on LEADING slots. -/

namespace Sys2Proof.Safety

open Sys2Proof.Machine

variable {s : State}

/-- A law on the slots alone. -/
structure SlotsKeep (P : State → Prop) : Prop where
  congr : ∀ {s t : State}, P s → t.slots = s.slots → P t
  set : ∀ {s : State} {i : SlotId} {g : GroupSlot}, SlotFits i g s → P s → P (s.setSlot i g)
  reset : P State.reset

theorem SlotsKeep.act {P : State → Prop} (k : SlotsKeep P) {s t : State} (ha : Act s t) (h : P s) : P t := by
  cases ha with
  | live | slide | hold => exact k.congr h rfl
  | event h' =>
    cases h' with
    | reset => exact k.congr k.reset rfl
    | clock | pins | mask | conds | write | written | abandon | drop => exact k.congr h rfl
    | change h' =>
      cases h' with
      | slot i g fits _ => exact k.set fits h
      | regroup i g fits => exact k.congr (k.set fits h) rfl
      | free r _ _ _ =>
        obtain ⟨_, _, h'⟩ := giveBack_eq (s := s) r
        rw [h']
        exact k.congr h rfl
      | raise | aside | queue | transmit | receive | lane | note | release | drain | arm => exact k.congr h rfl

theorem SlotsKeep.step {P : State → Prop} (k : SlotsKeep P) {s t : State} (h : step s = .next t) (hs : P s) : P t :=
  step_keep (fun _ _ h => k.congr h rfl) k.act (fun _ _ _ _ _ h => k.congr h rfl) h hs

theorem slot_of_slots {s t : State} (h : t.slots = s.slots) (i : SlotId) : t.slot i = s.slot i := by simp only [State.slot, h]

theorem reset_slot (i : SlotId) : State.reset.slot i = GroupSlot.unused := by simp [State.slot, State.reset]

theorem slotsLegal_keep : SlotsKeep SlotsLegal where
  congr hs h i := slot_of_slots h i ▸ hs i
  set {s i g} fits hs j := by
    rw [State.setSlot_slot]
    split
    · exact fits.legal (hs i)
    · exact hs j
  reset i := by rw [reset_slot]; rfl

theorem configsInRange_keep : SlotsKeep ConfigsInRange where
  congr hs h i c hc := hs i c (slot_of_slots h i ▸ hc)
  set {s i g} fits hs j c hc := by
    rw [State.setSlot_slot] at hc
    split at hc
    · exact (fits.config c hc).elim (hs i c) id
    · exact hs j c hc
  reset i c hc := by rw [reset_slot] at hc; cases hc

theorem tagsDistinct_keep : SlotsKeep TagsDistinct where
  congr hs h i j := by rw [slot_of_slots h, slot_of_slots h]; exact hs i j
  set {s i g} fits hs := by
    have fresh : ∀ j, j ≠ i → g.tag ≠ 0 → (s.slot j).tag ≠ g.tag := fun j hj h0 => by
      rcases fits.tag with h | h | h
      · rw [h] at h0 ⊢
        exact fun heq => hj (hs i j h0 heq.symm).symm
      · exact absurd h h0
      · exact h j hj
    intro j k h0 heq
    rw [State.setSlot_slot] at h0
    rw [State.setSlot_slot, State.setSlot_slot] at heq
    by_cases hj : j = i <;> by_cases hk : k = i
    · rw [hj, hk]
    · rw [if_pos hj] at h0 heq; rw [if_neg hk] at heq
      exact absurd heq.symm (fresh k hk h0)
    · rw [if_neg hj] at h0 heq; rw [if_pos hk] at heq
      exact absurd heq (fresh j hj (heq ▸ h0))
    · rw [if_neg hj] at h0 heq; rw [if_neg hk] at heq
      exact hs j k h0 heq
  reset i j h0 _ := by rw [reset_slot] at h0; exact absurd rfl h0

/-- R89, with the laws it leans on. -/
structure LedLaw (s : State) : Prop where
  slots : SlotsLegal s
  routes : RoutesConfigured s
  led : SourcesLed s

theorem LedLaw.routes_of {t : State} (h : RoutesConfigured s) (config : ∀ r, (t.route r).config = none ↔ (s.route r).config = none)
    (free : ∀ r, (t.route r).state = .free ↔ (s.route r).state = .free) : RoutesConfigured t := fun r => by
  rw [free, config]; exact h r

/-- The led law speaks of the slots, and of a route through its configuration and whether it is FREE. -/
theorem LedLaw.congr {t : State} (h : LedLaw s) (slots : t.slots = s.slots)
    (config : ∀ r, (t.route r).config = (s.route r).config) (free : ∀ r, (t.route r).state = .free ↔ (s.route r).state = .free) :
    LedLaw t :=
  ⟨slotsLegal_keep.congr h.slots slots, LedLaw.routes_of h.routes (fun r => by rw [config]) free, fun r c hc hm => by
    rw [slot_of_slots slots]; exact h.led r c (config r ▸ hc) hm⟩

theorem LedLaw.setRoute (h : LedLaw s) {r : RouteId} {x : Route} (config : x.config = (s.route r).config)
    (free : x.state = .free ↔ (s.route r).state = .free) : LedLaw (s.setRoute r x) := by
  refine h.congr rfl (fun q => ?_) fun q => ?_ <;> rw [State.setRoute_route] <;> split
  · rename_i hq; rw [hq, config]
  · rfl
  · rename_i hq; rw [hq, free]
  · rfl

theorem LedLaw.setSlot (h : LedLaw s) {i : SlotId} {g : GroupSlot} (fits : SlotFits i g s) (leads : LeadKept i g s) :
    LedLaw (s.setSlot i g) := by
  refine ⟨slotsLegal_keep.set fits h.slots, h.routes, fun r c hc hm => ?_⟩
  have was := h.led r c hc hm
  rw [State.setSlot_slot]
  split
  · rename_i hi
    rcases leads (h.slots i) (hi ▸ was) with hg | hn
    · exact hg
    · refine absurd hi (hn r c hc fun hf => ?_)
      rw [State.setSlot_route, (h.routes r).mp hf] at hc; cases hc
  · exact was

/-- A SOURCE route after R105 stands on another slot. -/
theorem turnToSink_source {i : SlotId} {t : Route} {c : RouteConfig} (hc : (t.turnToSink i).config = some c)
    (hm : c.mode = .source) : t.config = some c ∧ c.slot ≠ i := by
  unfold Route.turnToSink at hc
  split at hc
  · rename_i c' hc'
    split at hc
    · injection hc with hc; rw [← hc] at hm; cases hm
    · rename_i hn
      rw [hc'] at hc; injection hc with hc; subst hc
      exact ⟨hc', fun hs => hn ⟨hs, hm⟩⟩
  · rename_i hc'; rw [hc'] at hc; cases hc

theorem LedLaw.regroup (h : LedLaw s) {i : SlotId} {g : GroupSlot} (fits : SlotFits i g s) :
    LedLaw ((s.setSlot i g).turnRoutes i) := by
  refine ⟨slotsLegal_keep.congr (slotsLegal_keep.set fits h.slots) rfl, LedLaw.routes_of h.routes (fun r => ?_) fun r => ?_,
    fun r c hc hm => ?_⟩
  · simpa using turnToSink_config_none i (s.route r)
  · simp
  · rw [turnRoutes_route] at hc
    obtain ⟨hc, hne⟩ := turnToSink_source hc hm
    have : ((s.setSlot i g).turnRoutes i).slot c.slot = s.slot c.slot := State.setSlot_slot_ne _ _ _ _ hne
    rw [this]
    exact h.led r c hc hm

theorem giveBack_route_self (r : RouteId) : (s.giveBack r).route r = { Route.unused with counters := (s.route r).counters } := by
  unfold State.giveBack
  rw [State.modRoute_route_self]
  split <;> rfl

theorem LedLaw.giveBack (h : LedLaw s) (r : RouteId) : LedLaw (s.giveBack r) := by
  have slots : (s.giveBack r).slots = s.slots := by
    obtain ⟨_, _, h'⟩ := giveBack_eq (s := s) r
    rw [h']
  refine ⟨slotsLegal_keep.congr h.slots slots, fun q => ?_, fun q c hc hm => ?_⟩
  · by_cases hq : q = r
    · rw [hq, giveBack_route_self]; simp [Route.unused]
    · rw [giveBack_route_ne hq]; exact h.routes q
  · by_cases hq : q = r
    · rw [hq, giveBack_route_self] at hc; cases hc
    · rw [giveBack_route_ne hq] at hc
      rw [slot_of_slots slots]
      exact h.led q c hc hm

theorem LedLaw.armRoute (h : LedLaw s) {r : RouteId} {c : RouteConfig} (a : Armable r c s) : LedLaw (s.armRoute r c) := by
  refine ⟨slotsLegal_keep.congr h.slots rfl, fun q => ?_, fun q c' hc hm => ?_⟩ <;> unfold State.armRoute at *
  · rw [State.setRoute_route]
    split
    · simp [Route.armed]
    · exact h.routes q
  · rw [State.setRoute_route] at hc
    rw [State.setRoute_slot, State.ownPages_slot]
    split at hc
    · injection hc with hc; subst hc
      exact a.source hm
    · exact h.led q c' hc hm

theorem LedLaw.change {t : State} (h : LedLaw s) (hc : Change s t) : LedLaw t := by
  cases hc with
  | slot i g fits leads => exact h.setSlot fits leads
  | regroup i g fits => exact h.regroup fits
  | note => exact h.setRoute rfl Iff.rfl
  | release => exact h.setRoute rfl Iff.rfl
  | drain r taking => exact h.setRoute rfl ⟨fun h' => (by cases h'), fun h' => absurd h' (taking_ne_free taking)⟩
  | free r _ _ _ => exact h.giveBack r
  | arm r c a => exact h.armRoute a
  | raise | aside | queue | transmit | receive | lane => exact h.congr rfl (fun _ => rfl) fun _ => .rfl

theorem LedLaw.of_reset {t : State} (slots : t.slots = State.reset.slots) (routes : t.routes = State.reset.routes) : LedLaw t := by
  have route : ∀ r : RouteId, t.route r = Route.unused := fun r => by simp [State.route, routes, State.reset]
  refine ⟨slotsLegal_keep.congr slotsLegal_keep.reset slots, fun r => ?_, fun r c hc _ => ?_⟩
  · rw [route]; exact ⟨fun _ => rfl, fun _ => rfl⟩
  · rw [route] at hc; cases hc

theorem LedLaw.settlePlacement (h : LedLaw s) (p : Placement) (e : DirEntry) (k : RouteCounters) :
    LedLaw (s.settlePlacement p e k) := by
  have kept := h.setRoute (r := p.route)
    (x := { s.route p.route with dir := (s.route p.route).dir.set p.index e, counters := k }) rfl Iff.rfl
  exact kept.congr rfl (fun _ => rfl) fun _ => .rfl

theorem LedLaw.act {s t : State} (ha : Act s t) (h : LedLaw s) : LedLaw t := by
  cases ha with
  | live r c rp _ armed => exact h.setRoute rfl ⟨fun h' => (by cases h'), fun h' => by rw [armed] at h'; cases h'⟩
  | slide => exact h.setRoute rfl Iff.rfl
  | hold c p _ _ =>
    have kept := h.setRoute (r := p.route)
      (x := { s.route p.route with dir := (s.route p.route).dir.set p.index (.inPlacement p.frame.seq) }) rfl Iff.rfl
    exact kept.congr rfl (fun _ => rfl) fun _ => .rfl
  | event h' =>
    cases h' with
    | change h' => exact h.change h'
    | drop _ p _ => exact h.settlePlacement p .invalid (s.route p.route).counters
    | reset => exact .of_reset rfl rfl
    | clock | pins | mask | conds | write | written | abandon => exact h.congr rfl (fun _ => rfl) fun _ => .rfl

end Sys2Proof.Safety

namespace Sys2Proof.Proofs

open Sys2Proof.Machine Sys2Proof.Safety

/-- Settles O56: the three laws on the slots alone, and the law of SOURCE routes together with those it leans on. -/
theorem slotsStayLegal : Obligations.SlotsStayLegal := by
  unfold Obligations.SlotsStayLegal
  intro s t h
  refine ⟨slotsLegal_keep.step h, configsInRange_keep.step h, tagsDistinct_keep.step h, fun hs hr hl => ?_⟩
  have kept : LedLaw t := step_keep (fun _ _ h => h.congr rfl (fun _ => rfl) fun _ => .rfl) LedLaw.act
    (fun _ p e k _ h => h.settlePlacement p e k) h ⟨hs, hr, hl⟩
  exact kept.led

end Sys2Proof.Proofs
end

section
/-! O59: each VALID entry stays in its route's window, and a frame in flight at its index, less than D after the release point. -/

namespace Sys2Proof.Machine

open Sys2Proof.Safety

variable {s : State}

/-! ### Distances -/

/-- Where no distance overflows, moving the point of reference shifts the distance. -/
theorem seqDist_shift {rp q f : Seq} (low : -32768 ≤ seqDist rp f - seqDist rp q) (high : seqDist rp f - seqDist rp q < 32768) :
    seqDist q f = seqDist rp f - seqDist rp q := by
  unfold seqDist at *
  have e : f - q = (f - rp) - (q - rp) := by bv_omega
  rw [e, BitVec.toInt_sub]
  rw [Int.bmod_eq_of_le] <;> omega

theorem seqDist_back {q : Seq} {d : Nat} (hd : d < 32768) : seqDist (q - BitVec.ofNat 16 d) q = d := by
  unfold seqDist
  have e : q - (q - BitVec.ofNat 16 d) = BitVec.ofNat 16 d := by bv_omega
  rw [e, BitVec.toInt_eq_toNat_bmod, BitVec.toNat_ofNat, Int.bmod_eq_of_le] <;> omega

theorem seqDist_bounds (rp q : Seq) : -32768 ≤ seqDist rp q ∧ seqDist rp q < 32768 := by
  unfold seqDist
  have := BitVec.le_toInt (q - rp)
  have := BitVec.toInt_lt (x := q - rp)
  omega

/-! ### What an act does to one route -/

/-- R114, R117: a VALID entry for `f` may stand at the index `k`. -/
def Enterable (t : Route) (k : Nat) (f : StoredFrame) : Prop :=
  ∃ rp, t.release = some rp ∧ ∀ c, t.config = some c → 0 ≤ seqDist rp f.seq ∧ seqDist rp f.seq < c.depth ∧ k = f.seq.toNat % c.depth

/-- What one act, or the end of a placement, makes of a route's record. -/
inductive RouteStep : Route → Route → Prop
  | note (t : Route) (n : Option Seq) (l : Option (Time × Nat)) (k : RouteCounters) :
      RouteStep t { t with nextSeq := n, lastStamp := l, counters := k }
  | sink (t : Route) (i : SlotId) : RouteStep t (t.turnToSink i)
  | moved (t : Route) (rp q : Seq) (old : t.release = some rp) (ahead : 0 < seqDist rp q) : RouteStep t (t.moveRelease q)
  | slid (t : Route) (c : RouteConfig) (rp q : Seq) (config : t.config = some c) (old : t.release = some rp)
      (ahead : (c.depth : Int) ≤ seqDist rp q) : RouteStep t (t.moveRelease (q - BitVec.ofNat 16 c.depth + 1))
  | drained (t : Route) (taking : t.taking = true) : RouteStep t { t with state := .draining }
  | freed (t : Route) (k : RouteCounters) : RouteStep t { Route.unused with counters := k }
  | armed (t : Route) (c : RouteConfig) (depth : 8 ≤ c.depth ∧ c.depth ≤ 64 ∧ 2 ^ 16 % c.depth = 0) : RouteStep t (Route.armed c)
  | live (t : Route) (c : RouteConfig) (rp : Seq) (config : t.config = some c) (armed : t.state = .armed) :
      RouteStep t { t with state := .live, release := some rp }
  | entered (t : Route) (k : Nat) (e : DirEntry) (n : RouteCounters) (valid : ∀ f, e = .valid f → Enterable t k f) :
      RouteStep t { t with dir := t.dir.set k e, counters := n }

theorem RouteStep.same (t : Route) : RouteStep t t := .note t _ _ _

/-- An act on one route's record. -/
theorem RouteStep.setRoute {r : RouteId} {x : Route} (h : RouteStep (s.route r) x) (q : RouteId) :
    RouteStep (s.route q) ((s.setRoute r x).route q) := by
  rw [State.setRoute_route]
  split
  · rename_i hq; rw [hq]; exact h
  · exact .same _

theorem Change.routeStep {t : State} (h : Change s t) (q : RouteId) : RouteStep (s.route q) (t.route q) := by
  cases h with
  | regroup i g _ => rw [turnRoutes_route]; exact .sink _ i
  | note => exact (RouteStep.note _ _ _ _).setRoute q
  | release r rp p old ahead => exact (RouteStep.moved _ rp p old ahead).setRoute q
  | drain r taking => exact (RouteStep.drained _ taking).setRoute q
  | free r _ _ _ =>
    by_cases hq : q = r
    · rw [hq, giveBack_route_self]; exact .freed _ _
    · rw [giveBack_route_ne hq]; exact .same _
  | arm r c a => exact (RouteStep.armed _ c a.depth).setRoute q
  | raise | aside | queue | transmit | receive | slot | lane => exact .same _

theorem settlePlacement_routeStep (p : Placement) (e : DirEntry) (k : RouteCounters)
    (valid : ∀ f, e = .valid f → Enterable (s.route p.route) p.index f) (q : RouteId) :
    RouteStep (s.route q) ((s.settlePlacement p e k).route q) :=
  (RouteStep.entered (s.route p.route) p.index e k valid).setRoute q

theorem Event.routeStep {k : Reach} {t : State} (h : Event k s t) (q : RouteId) : RouteStep (s.route q) (t.route q) := by
  cases h with
  | change h => exact h.routeStep q
  | drop _ p _ => exact settlePlacement_routeStep p .invalid (s.route p.route).counters (fun f h => (by cases h)) q
  | reset =>
    have freed := RouteStep.freed (s.route q) RouteCounters.zero
    have : State.reset.route q = Route.unused := by simp [State.route, State.reset]
    exact this ▸ freed
  | clock | pins | mask | conds | write | written | abandon => exact .same _

theorem Act.routeStep {s t : State} (h : Act s t) (q : RouteId) : RouteStep (s.route q) (t.route q) := by
  cases h with
  | live r c rp config armed => exact (RouteStep.live _ c rp config armed).setRoute q
  | slide r c rp p config old ahead => exact (RouteStep.slid _ c rp p config old ahead).setRoute q
  | hold c p _ _ =>
    exact (RouteStep.entered (s.route p.route) p.index (.inPlacement p.frame.seq) (s.route p.route).counters
      fun f h => (by cases h)).setRoute q
  | event h => exact h.routeStep q

end Sys2Proof.Machine

/-! ### The window of one route -/

namespace Sys2Proof.Safety

open Sys2Proof.Machine

/-- The window speaks of a route's directory and release point, its depth, and whether it is ARMED or LIVE. -/
theorem RouteWindow.congr {t u : Route} (h : RouteWindow t) (dir : u.dir = t.dir) (release : u.release = t.release)
    (config : ∀ c, u.config = some c → ∃ c', t.config = some c' ∧ c'.depth = c.depth)
    (unset : u.config = none → t.config = none) (live : u.state = .live → t.state = .live)
    (armed : u.state = .armed → t.state = .armed) : RouteWindow u := by
  refine ⟨fun hr => ?_, fun c rp e f hc hr hf => ?_, fun c hc => ?_, fun hc => ?_, fun hs => ?_, fun hs => ?_⟩
  · rw [dir]; exact h.empty (release ▸ hr)
  · obtain ⟨c', hc', hd⟩ := config c hc
    rw [← hd]
    exact h.window c' rp e f hc' (release ▸ hr) (dir ▸ hf)
  · obtain ⟨c', hc', hd⟩ := config c hc
    rw [dir, ← hd]; exact h.depth c' hc'
  · rw [dir, release]; exact h.free (unset hc)
  · rw [release]; exact h.live (live hs)
  · rw [release]; exact h.armed (armed hs)

/-- R115, R118: the release point moves forward, and what it passes becomes INVALID. -/
theorem RouteWindow.moved {t : Route} (h : RouteWindow t) {rp q : Seq} (old : t.release = some rp) (ahead : 0 < seqDist rp q) :
    RouteWindow (t.moveRelease q) := by
  refine ⟨fun hr => (by cases hr), fun c rp' e f hc hr hf => ?_, fun c hc => ?_, fun hc => ?_, fun _ => rfl, fun hs => ?_⟩
  · injection hr with hr; subst hr
    have hf' : (t.dir.map (passedBy q))[e]? = some (.valid f) := hf
    rw [List.getElem?_map, Option.map_eq_some_iff] at hf'
    obtain ⟨x, hx, hv⟩ := hf'
    obtain ⟨rfl, hge⟩ := (passedBy_valid q x f).mp hv
    obtain ⟨h0, hlt, hidx⟩ := h.window c rp e f hc old hx
    refine ⟨hge, ?_, hidx⟩
    obtain ⟨-, hd, -⟩ := (h.depth c hc).2
    have bounds := seqDist_bounds rp q
    rw [seqDist_shift (rp := rp) (by omega) (by omega)]
    omega
  · rw [moveRelease_dir_length]; exact h.depth c hc
  · have := (h.free hc).2
    rw [old] at this; cases this
  · have := h.armed hs
    rw [old] at this; cases this

theorem RouteWindow.entered {t : Route} (h : RouteWindow t) {k : Nat} {e : DirEntry} (n : RouteCounters)
    (valid : ∀ f, e = .valid f → Enterable t k f) : RouteWindow { t with dir := t.dir.set k e, counters := n } := by
  have entry : ∀ (j : Nat) (f : StoredFrame), (t.dir.set k e)[j]? = some (.valid f) → t.dir[j]? = some (.valid f) ∨ j = k ∧ e = .valid f :=
    fun j f hf => by
      rw [List.getElem?_set] at hf
      split at hf
      · rename_i hk
        split at hf
        · injection hf with hf; exact .inr ⟨hk.symm, hf⟩
        · cases hf
      · exact .inl hf
  refine ⟨fun hr j f hf => ?_, fun c rp j f hc hr hf => ?_, fun c hc => ?_, fun hc => ?_, h.live, h.armed⟩
  · rcases entry j f hf with hf | ⟨-, he⟩
    · exact h.empty hr j f hf
    · obtain ⟨rp, hrp, -⟩ := valid f he
      have hr : t.release = none := hr
      rw [hrp] at hr; cases hr
  · rcases entry j f hf with hf | ⟨hj, he⟩
    · exact h.window c rp j f hc hr hf
    · obtain ⟨rp', hrp, hin⟩ := valid f he
      have hr : t.release = some rp := hr
      rw [hrp] at hr; injection hr with hr
      rw [hj, ← hr]
      exact hin c hc
  · simpa using h.depth c hc
  · obtain ⟨hd, hr⟩ := h.free hc
    exact ⟨by simp [hd], hr⟩

theorem RouteWindow.unused (k : RouteCounters) : RouteWindow { Route.unused with counters := k } :=
  ⟨fun _ e f hf => (by cases hf), fun c rp e f hc => (by cases hc), fun c hc => (by cases hc), fun _ => ⟨rfl, rfl⟩,
    fun hs => (by cases hs), fun _ => rfl⟩

theorem RouteWindow.step {t u : Route} (h : RouteWindow t) (hs : RouteStep t u) : RouteWindow u := by
  cases hs with
  | note => exact h.congr rfl rfl (fun c hc => ⟨c, hc, rfl⟩) id id id
  | sink i =>
    unfold Route.turnToSink
    split
    · rename_i c hc
      split
      · refine h.congr rfl rfl (fun c' hc' => ⟨c, hc, ?_⟩) (fun h' => by cases h') id id
        injection hc' with hc'; rw [← hc']
      · exact h
    · exact h
  | moved rp q old ahead => exact h.moved old ahead
  | slid c rp q config old ahead =>
    obtain ⟨-, h8, h64, -⟩ := h.depth c config
    exact h.moved old (slide_ahead ⟨h8, h64⟩ ahead).1
  | drained _ =>
    exact h.congr rfl rfl (fun c hc => ⟨c, hc, rfl⟩) id (fun h' => by cases h') (fun h' => by cases h')
  | freed k => exact .unused k
  | armed c depth =>
    refine ⟨fun _ e f hf => ?_, fun _ rp e f _ hr => (by cases hr), fun c' hc => ?_, fun hc => (by cases hc), fun hs => (by cases hs),
      fun _ => rfl⟩
    · have hf : (List.replicate c.depth DirEntry.invalid)[e]? = some (.valid f) := hf
      rw [List.getElem?_replicate] at hf
      split at hf <;> cases hf
    · injection hc with hc; subst hc
      exact ⟨List.length_replicate, depth⟩
  | live c rp config armed =>
    have none_valid := h.empty (h.armed armed)
    refine ⟨fun hr => (by cases hr), fun _ _ e f _ _ hf => absurd hf (none_valid e f), h.depth, fun hc => ?_, fun _ => rfl,
      fun hs => (by cases hs)⟩
    have hc : t.config = none := hc
    rw [config] at hc; cases hc
  | entered k e n valid => exact h.entered n valid

end Sys2Proof.Safety
end

section
/-! O59, continued: what becomes of a frame in flight, and the law over a whole step. -/

namespace Sys2Proof.Safety

open Sys2Proof.Machine

variable {s : State}

/-- R114, R119, with the law on configurations that they lean on. -/
structure WindowLaw (s : State) : Prop where
  windows : WindowsLegal s
  placement : PlacementLegal s
  configured : RoutesConfigured s

/-- The record of the route of a frame in flight keeps its depth, and holds a release point only if it held one. -/
structure FlightRoute (t u : Route) : Prop where
  config : ∀ c, t.config = some c → ∃ c', u.config = some c' ∧ c'.depth = c.depth
  release : t.release = none → u.release = none

theorem FlightRoute.refl (t : Route) : FlightRoute t t := ⟨fun c hc => ⟨c, hc, rfl⟩, id⟩

theorem FlightRoute.trans {t u v : Route} (h : FlightRoute t u) (h' : FlightRoute u v) : FlightRoute t v := by
  refine ⟨fun c hc => ?_, fun hr => h'.release (h.release hr)⟩
  obtain ⟨c', hc', hd⟩ := h.config c hc
  obtain ⟨c'', hc'', hd'⟩ := h'.config c' hc'
  exact ⟨c'', hc'', hd'.trans hd⟩

theorem FlightRoute.of_eq {t u : Route} (config : u.config = t.config) (release : t.release = none → u.release = none) :
    FlightRoute t u :=
  ⟨fun c hc => ⟨c, config ▸ hc, rfl⟩, release⟩

theorem FlightRoute.setRoute {r : RouteId} (x : Route) (h : FlightRoute (s.route r) x) (q : RouteId) :
    FlightRoute (s.route q) ((s.setRoute r x).route q) := by
  rw [State.setRoute_route]
  split
  · rename_i hq; rw [hq]; exact h
  · exact .refl _

/-- A frame in flight in `t` was in flight in `s`, at the same index of the same route. -/
def FlightKept (s t : State) : Prop :=
  ∀ p', t.store.placement = some p' → ∃ p, s.store.placement = some p ∧ p'.route = p.route ∧ p'.index = p.index ∧
    p'.frame = p.frame ∧ FlightRoute (s.route p.route) (t.route p.route)

theorem FlightKept.trans {s t u : State} (h : FlightKept s t) (h' : FlightKept t u) : FlightKept s u := fun p'' hp'' => by
  obtain ⟨p', hp', route', index', frame', kept'⟩ := h' p'' hp''
  obtain ⟨p, hp, route, index, frame, kept⟩ := h p' hp'
  rw [route] at kept'
  exact ⟨p, hp, route'.trans route, index'.trans index, frame'.trans frame, kept.trans kept'⟩

/-- The placement itself stays as it is. -/
theorem FlightKept.of_routes {t : State} (placement : t.store.placement = s.store.placement)
    (routes : ∀ p, s.store.placement = some p → FlightRoute (s.route p.route) (t.route p.route)) : FlightKept s t :=
  fun p hp => ⟨p, placement ▸ hp, rfl, rfl, rfl, routes p (placement ▸ hp)⟩

theorem FlightKept.setRoute (r : RouteId) (x : Route) (config : x.config = (s.route r).config)
    (release : (s.route r).release = none → x.release = none) : FlightKept s (s.setRoute r x) :=
  .of_routes rfl fun p _ => FlightRoute.setRoute x (.of_eq config release) p.route

theorem FlightKept.of_none {t : State} (h : t.store.placement = none) : FlightKept s t := fun p hp => by rw [h] at hp; cases hp

theorem FlightKept.refl (s : State) : FlightKept s s := .of_routes rfl fun _ _ => .refl _

theorem PlacementLegal.flight {t : State} (h : PlacementLegal s) (hk : FlightKept s t) : PlacementLegal t := fun p' hp' => by
  obtain ⟨p, hp, route, index, frame, kept⟩ := hk p' hp'
  obtain ⟨c, hc, hi⟩ := h p hp
  obtain ⟨c', hc', hd⟩ := kept.config c hc
  exact ⟨c', route ▸ hc', by rw [index, frame, hd, hi]⟩

theorem giveBack_placement (r : RouteId) : (s.giveBack r).store.placement = s.store.placement := by
  obtain ⟨_, _, h⟩ := giveBack_eq (s := s) r
  rw [h]

/-- R104: a route becomes FREE, or is armed, only where no placement on it is in flight. -/
theorem flightKept_of_change {t : State} (h : WindowLaw s) (hc : Change s t) : FlightKept s t := by
  cases hc with
  | regroup i g _ =>
    refine .of_routes rfl fun p _ => ?_
    rw [turnRoutes_route, State.setSlot_route]
    unfold Route.turnToSink
    split
    · rename_i c hc
      split
      · exact ⟨fun c' hc' => ⟨_, rfl, by rw [hc] at hc'; injection hc' with hc'; rw [← hc']⟩, id⟩
      · exact .refl _
    · exact .refl _
  | note r => exact .setRoute r _ rfl id
  | release r rp q old _ =>
    refine .setRoute r _ rfl fun hr => ?_
    rw [old] at hr; cases hr
  | drain r => exact .setRoute r _ rfl id
  | free r _ _ unplaced =>
    refine .of_routes (giveBack_placement r) fun p hp => ?_
    have hne : p.route ≠ r := by
      unfold State.placing at unplaced
      rw [hp] at unplaced
      simpa using unplaced
    rw [giveBack_route_ne hne]
    exact .refl _
  | arm r c a =>
    refine .of_routes rfl fun p hp => ?_
    obtain ⟨c', hc', -⟩ := h.placement p hp
    have hne : p.route ≠ r := fun hr => by
      rw [hr, (h.configured r).mp a.free] at hc'; cases hc'
    unfold State.armRoute
    rw [State.setRoute_route_ne _ _ _ _ hne]
    exact .refl _
  | raise | aside | queue | transmit | receive | slot | lane => exact .of_routes rfl fun _ _ => .refl _

theorem flightKept_of_event {k : Reach} {t : State} (h : WindowLaw s) (he : Event k s t) : FlightKept s t := by
  cases he with
  | change hc => exact flightKept_of_change h hc
  | written _ p hp => exact fun p' hp' => by injection hp' with hp'; subst hp'; exact ⟨p, hp, rfl, rfl, rfl, .refl _⟩
  | abandon _ p hp => exact fun p' hp' => by injection hp' with hp'; subst hp'; exact ⟨p, hp, rfl, rfl, rfl, .refl _⟩
  | drop => exact .of_none rfl
  | reset => exact .of_none rfl
  | clock | pins | mask | conds | write => exact .of_routes rfl fun _ _ => .refl _

/-! ### The law over a run of acts -/

theorem RoutesConfigured.step {t u : Route} (h : t.state = .free ↔ t.config = none) (hs : RouteStep t u) :
    u.state = .free ↔ u.config = none := by
  cases hs with
  | note => exact h
  | sink i => rw [turnToSink_state, turnToSink_config_none]; exact h
  | moved => exact h
  | slid => exact h
  | drained taking => exact ⟨fun h' => (by cases h'), fun h' => absurd (h.mpr h') (taking_ne_free taking)⟩
  | freed => exact ⟨fun _ => rfl, fun _ => rfl⟩
  | armed => exact ⟨fun h' => (by cases h'), fun h' => (by cases h')⟩
  | live c rp config _ =>
    refine ⟨fun h' => (by cases h'), fun h' => ?_⟩
    have h' : t.config = none := h'
    rw [config] at h'; cases h'
  | entered => exact h

theorem WindowLaw.of_steps {t : State} (h : WindowLaw s) (routes : ∀ q, RouteStep (s.route q) (t.route q))
    (placement : PlacementLegal t) : WindowLaw t :=
  ⟨fun q => (h.windows q).step (routes q), placement, fun q => RoutesConfigured.step (h.configured q) (routes q)⟩

/-- The law of the placement speaks of the placement and of the configurations. -/
theorem PlacementLegal.setRoute (h : PlacementLegal s) {r : RouteId} {x : Route} (config : x.config = (s.route r).config) :
    PlacementLegal (s.setRoute r x) := fun p hp => by
  obtain ⟨c, hc, hi⟩ := h p hp
  refine ⟨c, ?_, hi⟩
  rw [State.setRoute_route]
  split
  · rename_i hr; rw [config, ← hr]; exact hc
  · exact hc

theorem holdPlacement_route (p : Placement) (q : RouteId) : (s.holdPlacement p).route q =
    if q = p.route then { s.route p.route with dir := (s.route p.route).dir.set p.index (.inPlacement p.frame.seq) } else s.route q :=
  State.modRoute_route s p.route q fun t => { t with dir := t.dir.set p.index (.inPlacement p.frame.seq) }

theorem WindowLaw.act {s t : State} (ha : Act s t) (h : WindowLaw s) : WindowLaw t := by
  refine h.of_steps ha.routeStep ?_
  cases ha with
  | event he => exact h.placement.flight (flightKept_of_event h he)
  | live => exact h.placement.setRoute rfl
  | slide => exact h.placement.setRoute rfl
  | hold c p at' index =>
    intro p' hp'
    injection hp' with hp'
    subst hp'
    refine ⟨c, ?_, index⟩
    rw [holdPlacement_route, if_pos rfl]
    exact at'.config

theorem WindowLaw.acts {t : State} (h : WindowLaw s) (ha : Acts s t) : WindowLaw t := ha.keep WindowLaw.act h

/-- R120: the end of a placement, whose frame lies less than D after the release point. -/
theorem WindowLaw.complete (h : WindowLaw s) (below : PlacementBelow s) : WindowLaw s.completePlacement := by
  have gone : ∀ (p : Placement) (e : DirEntry) (k : RouteCounters), PlacementLegal (s.settlePlacement p e k) :=
    fun _ _ _ _ hp => by cases hp
  rcases completePlacement_cases (s := s) with h' | ⟨p, k, hp, h' | ⟨h', rp, hrp, h0⟩⟩ <;> rw [h']
  · exact h
  · exact (h.of_steps (settlePlacement_routeStep p .invalid k fun f hf => by cases hf) (gone _ _ _)).act
      (.event (k := .raises) (.change (.raise _ _)))
  · refine h.of_steps (settlePlacement_routeStep p (.valid p.frame) k fun f hf => ?_) (gone _ _ _)
    injection hf with hf
    subst hf
    obtain ⟨c', hc', hi⟩ := h.placement p hp
    refine ⟨rp, hrp, fun c hc => ?_⟩
    rw [hc'] at hc; injection hc with hc; subst hc
    exact ⟨h0, below p c' rp hp hc' hrp, hi⟩

theorem flightKept_complete : FlightKept s s.completePlacement := by
  rcases completePlacement_cases (s := s) with h' | ⟨p, k, hp, h' | ⟨h', -⟩⟩ <;> rw [h']
  · exact .refl s
  · exact .of_none rfl
  · exact .of_none rfl

theorem flightKept_of_events {k : Reach} {t : State} (h : WindowLaw s) (he : Events k s t) : FlightKept s t := by
  induction he with
  | refl => exact .refl s
  | tail he h' ih => exact ih.trans (flightKept_of_event (h.acts (Events.acts he)) h')

/-! ### The placement decision -/

/-- R119: a placement begun less than D after the release point. -/
theorem beginPlacement_below {r : RouteId} {c : RouteConfig} (f : StoredFrame) (data : List Byte) {rp : Seq}
    (config : (s.route r).config = some c) (old : (s.route r).release = some rp) (below : seqDist rp f.seq < c.depth) :
    PlacementBelow (s.beginPlacement r c f data) := by
  rw [beginPlacement_eq]
  obtain ⟨burst, reads, h'⟩ := arbitrate_frame (s := s.holdPlacement (placementOf r c f data))
  rw [h']
  intro p c' rp' hp hc hr
  have hp : some (placementOf r c f data) = some p := hp
  injection hp with hp
  subst hp
  have route : (s.holdPlacement (placementOf r c f data)).route r =
      { s.route r with dir := (s.route r).dir.set (placementOf r c f data).index (.inPlacement f.seq) } := by
    rw [holdPlacement_route]; exact if_pos rfl
  have hc : ((s.holdPlacement (placementOf r c f data)).route r).config = some c' := hc
  have hr : ((s.holdPlacement (placementOf r c f data)).route r).release = some rp' := hr
  rw [route] at hc hr
  have hc : (s.route r).config = some c' := hc
  have hr : (s.route r).release = some rp' := hr
  rw [config] at hc; injection hc with hc
  rw [old] at hr; injection hr with hr
  rw [← hc, ← hr]
  exact below

/-- A placement decision leaves the frame in flight as it is, or begins the placement of one less than D after the release
point. -/
theorem place_below {r : RouteId} {c : RouteConfig} (h : WindowLaw s) (at' : AtRoute r c s) (f : StoredFrame) (bs : List Byte) :
    FlightKept s (s.place r c f bs) ∨ PlacementBelow (s.place r c f bs) := by
  obtain ⟨-, h8, h64, -⟩ := (h.windows r).depth c at'.config
  unfold State.place
  dsimp only
  rcases goLive_eq (s := s) r c f.seq with ⟨unarmed, h'⟩ | ⟨harmed, h'⟩ <;> rw [h']
  · obtain ⟨rp, hrp⟩ : ∃ rp, (s.route r).release = some rp := by
      refine Option.isSome_iff_exists.mp ((h.windows r).live ?_)
      have taking := at'.taking
      simp only [Route.taking, Bool.or_eq_true, beq_iff_eq] at taking
      exact taking.resolve_left unarmed
    rw [hrp]
    have discarded : ∀ {u : State}, Changes s u → u.rx = s.rx → FlightKept s u.releaseHand := fun hu hrx =>
      flightKept_of_events (k := .raises) h (at'.desk.discarded_after hu hrx).events
    rcases decidePlacement_cases (rp := rp) c f (storedData bs) with ⟨k, h', -⟩ | ⟨k, h', -⟩ | ⟨k, g, h', -, -⟩ |
      ⟨h', -, hlt⟩ | ⟨hge, h'⟩ <;> dsimp only <;> rw [h']
    · exact .inl (discarded ((bump_changes r _).tail (.raise _ _)) rfl)
    · exact .inl (discarded ((bump_changes r _).tail (.raise _ _)) rfl)
    · exact .inl (discarded (bump_changes r _) rfl)
    · exact .inr (beginPlacement_below f _ at'.config hrp hlt)
    · refine .inr (beginPlacement_below f _ (rp := f.seq - BitVec.ofNat 16 c.depth + 1) ?_ ?_ ?_)
      · simpa using at'.config
      · simp
      · rw [(slide_ahead ⟨h8, h64⟩ hge).2]; omega
  · have route := State.setRoute_route_self s r
      { s.route r with state := .live, release := some (f.seq - BitVec.ofNat 16 (c.depth / 4)) }
    rw [route]
    have back : seqDist (f.seq - BitVec.ofNat 16 (c.depth / 4)) f.seq = (c.depth / 4 : Nat) := seqDist_back (by omega)
    right
    rcases decidePlacement_cases (rp := f.seq - BitVec.ofNat 16 (c.depth / 4)) c f (storedData bs) with ⟨-, -, hd⟩ | ⟨-, -, hd⟩ |
      ⟨-, g, -, -, hg⟩ | ⟨h', -, hlt⟩ | ⟨hd, -⟩
    · omega
    · omega
    · rw [route, List.getD_eq_getElem?_getD] at hg
      cases he : (s.route r).dir[dirIndex c f.seq]? with
      | none => rw [he] at hg; cases hg
      | some e =>
        rw [he] at hg
        have hg : e = .valid g := hg
        exact absurd (hg ▸ he) ((h.windows r).empty ((h.windows r).armed harmed) _ g)
    · dsimp only
      rw [h']
      exact beginPlacement_below f _ (by rw [route]; exact at'.config) (by rw [route]) hlt
    · omega

/-- R120: where the release point is carried no further than a distance can show, a frame in flight stays below D. -/
theorem PlacementBelow.flight {t : State} (below : PlacementBelow s) (h : PlacementLegal s) (kept : FlightKept s t)
    (near : ReleaseNear s t) : PlacementBelow t := by
  intro p' c' rp' hp' hc' hr'
  obtain ⟨p, hp, route, -, frame, kept⟩ := kept p' hp'
  rw [route] at hc' hr'
  obtain ⟨c, hc, -⟩ := h p hp
  obtain ⟨c'', hc'', hd⟩ := kept.config c hc
  rw [hc'] at hc''; injection hc'' with hc''; subst hc''
  cases hr : (s.route p.route).release with
  | none => rw [kept.release hr] at hr'; cases hr'
  | some rp =>
    have hlt := below p c rp hp hc hr
    obtain ⟨h0, hfar⟩ := near p p' rp rp' hp hp' route frame hr hr'
    have bounds := seqDist_bounds rp p.frame.seq
    rw [frame, hd, seqDist_shift (rp := rp) (by omega) (by omega)]
    omega

/-- What a run of acts makes of the law and of the frame in flight. -/
theorem executed_windows {k : Reach} {t : State} (h : WindowLaw s) (he : Executed k s t) :
    WindowLaw t ∧ (FlightKept s t ∨ PlacementBelow t) := by
  cases he with
  | plain he => exact ⟨h.acts he.acts, .inl (flightKept_of_events h he)⟩
  | placed he r c f bs _ at' =>
    have hu := h.acts he.acts
    refine ⟨hu.acts (place_acts at' f bs), ?_⟩
    rcases place_below hu at' f bs with kept | below
    · exact .inl ((flightKept_of_events h he).trans kept)
    · exact .inr below

end Sys2Proof.Safety

namespace Sys2Proof.Proofs

open Sys2Proof.Machine Sys2Proof.Safety

/-- Settles O59: a placement's end uses that its frame lies less than D after the release point, each further act keeps the
windows, and a frame still in flight after them was in flight before or has just been placed. -/
theorem windowsStayLegal : Obligations.WindowsStayLegal := by
  unfold Obligations.WindowsStayLegal
  intro s t hw hp hb hr h
  obtain ⟨u, rfl, hu⟩ := step_executed h
  have law : WindowLaw { s with pending := s.pending.tail } := ⟨hw, hp, hr⟩
  obtain ⟨law', flight⟩ : WindowLaw t ∧ (FlightKept { s with pending := s.pending.tail } t ∨ PlacementBelow t) := by
    rcases hu with hu | hu
    · exact executed_windows law hu
    · obtain ⟨law', flight⟩ := executed_windows (law.complete hb) hu
      exact ⟨law', flight.imp_left flightKept_complete.trans⟩
  refine ⟨law'.windows, law'.placement, law'.configured, fun near => ?_⟩
  rcases flight with kept | below
  · exact PlacementBelow.flight (s := { s with pending := s.pending.tail }) hb hp kept near
  · exact below

end Sys2Proof.Proofs
end

section
/-! O60: what makes a condition absent, and what changes the mask. -/

namespace Sys2Proof.Machine

variable {s : State}

/-- R192: what an act of the reach `k` leaves of the conditions. -/
structure CondsKept (k : Reach) (s t : State) : Prop where
  present : k ≠ .clears → ∀ i, s.cond.present.getLsbD i = true → t.cond.present.getLsbD i = true
  mask : k = .raises → t.cond.mask = s.cond.mask

theorem CondsKept.refl (k : Reach) (s : State) : CondsKept k s s := ⟨fun _ _ => id, fun _ => rfl⟩

theorem CondsKept.trans {k : Reach} {s t u : State} (h : CondsKept k s t) (h' : CondsKept k t u) : CondsKept k s u :=
  ⟨fun hk i hi => h'.present hk i (h.present hk i hi), fun hk => (h'.mask hk).trans (h.mask hk)⟩

theorem CondsKept.of_eq {k : Reach} {s t : State} (h : t.cond = s.cond) : CondsKept k s t :=
  ⟨fun _ _ => by rw [h]; exact id, fun _ => by rw [h]⟩

theorem condsKept_raise {k : Reach} (c : Condition) : CondsKept k s (s.raise c) :=
  ⟨fun _ i hi => by simp [State.raise, hi], fun _ => rfl⟩

theorem CondsKept.raised {k : Reach} {s t : State} (c : Condition) (h : t.cond = (s.raise c).cond) : CondsKept k s t :=
  (condsKept_raise c).trans (.of_eq h)

theorem Change.condsKept {k : Reach} {t : State} (h : Change s t) : CondsKept k s t := by
  cases h with
  | raise c => exact condsKept_raise c
  | free r _ _ _ => exact .of_eq (by unfold State.giveBack; split <;> rfl)
  | aside | queue | transmit | receive | slot | regroup | lane | note | release | drain | arm => exact .of_eq rfl

theorem Event.condsKept {k : Reach} {t : State} (h : Event k s t) : CondsKept k s t := by
  cases h with
  | change h => exact h.condsKept
  | mask _ m => exact ⟨fun _ _ => id, fun h => (by cases h)⟩
  | conds => exact ⟨fun h => absurd rfl h, fun h => (by cases h)⟩
  | reset => exact ⟨fun h => absurd rfl h, fun h => (by cases h)⟩
  | clock | pins | write | written | abandon | drop => exact .of_eq rfl

theorem Events.condsKept {k : Reach} {t : State} (h : Events k s t) : CondsKept k s t := by
  induction h with
  | refl => exact .refl k s
  | tail _ h ih => exact ih.trans h.condsKept

theorem beginPlacement_cond (r : RouteId) (c : RouteConfig) (f : StoredFrame) (data : List Byte) :
    (s.beginPlacement r c f data).cond = s.cond := by
  rw [beginPlacement_eq]
  obtain ⟨burst, reads, h⟩ := arbitrate_frame (s := s.holdPlacement (placementOf r c f data))
  rw [h]; rfl

theorem place_condsKept {k : Reach} (r : RouteId) (c : RouteConfig) (f : StoredFrame) (bs : List Byte) :
    CondsKept k s (s.place r c f bs) := by
  unfold State.place
  dsimp only
  have went : (s.modRoute r (Route.goLive c f.seq)).cond = s.cond := rfl
  generalize s.modRoute r (Route.goLive c f.seq) = u at went
  split
  · rename_i rp hrp
    rcases decidePlacement_cases (s := u) (rp := rp) (r := r) c f (storedData bs) with ⟨_, h, -⟩ | ⟨_, h, -⟩ | ⟨_, g, h, -, -⟩ |
      ⟨h, -, -⟩ | ⟨-, h⟩ <;> rw [h]
    · exact (CondsKept.of_eq went).trans (.raised .frameLate rfl)
    · exact (CondsKept.of_eq went).trans (.raised .frameAhead rfl)
    · exact .of_eq went
    · exact .of_eq ((beginPlacement_cond r c f _).trans went)
    · exact .of_eq ((beginPlacement_cond r c f _).trans went)
  · exact .of_eq went

theorem Executed.condsKept {k : Reach} {t : State} (h : Executed k s t) : CondsKept k s t := by
  cases h with
  | plain h => exact h.condsKept
  | placed h r c f bs _ _ => exact (Events.condsKept h).trans (place_condsKept r c f bs)

theorem completePlacement_condsKept {k : Reach} : CondsKept k s s.completePlacement := by
  rcases completePlacement_cases (s := s) with h | ⟨_, _, -, h | ⟨h, -⟩⟩ <;> rw [h]
  · exact .refl k s
  · exact .raised .frameLate rfl
  · exact .of_eq rfl

theorem condsKept_of_executed {k : Reach} {t : State} (h : Executed k s t ∨ Executed k s.completePlacement t) :
    CondsKept k s t :=
  h.elim Executed.condsKept fun h => completePlacement_condsKept.trans h.condsKept

/-- No condition present has become absent. -/
theorem CondsKept.none_absent {k : Reach} {t : State} (h : CondsKept k s t) (hk : k ≠ .clears) :
    s.cond.present &&& ~~~ t.cond.present = 0 := by
  refine BitVec.eq_of_getLsbD_eq fun i hi => ?_
  have kept := h.present hk i
  simp only [BitVec.getLsbD_and, BitVec.getLsbD_not, hi, decide_true, Bool.true_and]
  cases hs : s.cond.present.getLsbD i
  · simp
  · simp [kept hs]

end Sys2Proof.Machine

namespace Sys2Proof.Machine

variable {s : State}

/-- What no change touches. -/
structure Framed (s t : State) : Prop where
  lmc : t.time.lmc = s.time.lmc
  state : t.time.state = s.time.state
  selected : t.time.selectRefin = s.time.selectRefin
  pins : t.pins = s.pins
  mem : t.store.mem = s.store.mem
  pending : t.pending = s.pending

theorem Framed.trans {s t u : State} (h : Framed s t) (h' : Framed t u) : Framed s u :=
  ⟨h'.lmc.trans h.lmc, h'.state.trans h.state, h'.selected.trans h.selected, h'.pins.trans h.pins, h'.mem.trans h.mem,
    h'.pending.trans h.pending⟩

theorem Change.framed {t : State} (h : Change s t) : Framed s t := by
  cases h with
  | free r _ _ _ => unfold State.giveBack; split <;> exact ⟨rfl, rfl, rfl, rfl, rfl, rfl⟩
  | raise | aside | queue | transmit | receive | slot | regroup | lane | note | release | drain | arm =>
    exact ⟨rfl, rfl, rfl, rfl, rfl, rfl⟩

theorem Changes.framed {t : State} (h : Changes s t) : Framed s t := by
  induction h with
  | refl => exact ⟨rfl, rfl, rfl, rfl, rfl, rfl⟩
  | tail _ h ih => exact ih.trans h.framed

theorem completePlacement_framed : Framed s s.completePlacement := by
  rcases completePlacement_cases (s := s) with h | ⟨_, _, -, h | ⟨h, -⟩⟩ <;> rw [h] <;> exact ⟨rfl, rfl, rfl, rfl, rfl, rfl⟩

theorem clockTo_state (now : Time) : (s.clockTo now).time.state = s.time.state := by
  unfold State.clockTo; split <;> rfl

theorem clockTo_selectRefin (now : Time) : (s.clockTo now).time.selectRefin = s.time.selectRefin := by
  unfold State.clockTo; split <;> rfl

/-- R33: one count of the LMC. -/
theorem tick_framed (h : s.pins.inReset = false) :
    ∃ u : State, Framed s u ∧ ∃ v : State, v.time.lmc = u.time.lmc + 1 ∧ v.time.state = u.time.state ∧
      v.time.selectRefin = u.time.selectRefin ∧ v.pins = u.pins ∧ v.store = u.store ∧ v.pending = u.pending ∧
      Framed v s.tick := by
  have settled : Changes s.completePlacement s.settle := settleUnplaced_changes
  have framed := completePlacement_framed.trans settled.framed
  refine ⟨s.settle, framed, (s.settle.clockTo (s.time.lmc + 1)).monitorEdge, ?_⟩
  have hv : ∀ w : State, ∃ e, w.monitorEdge = { w with time := { w.time with monitorEdges := e } } := fun w => by
    unfold State.monitorEdge; split
    · exact ⟨_, rfl⟩
    · exact ⟨w.time.monitorEdges, rfl⟩
  obtain ⟨e, he⟩ := hv (s.settle.clockTo (s.time.lmc + 1))
  have quiet : ((s.settle.clockTo (s.time.lmc + 1)).monitorEdge).store.quiet = true := by
    rw [he]
    simpa using Changes.quiet settled completePlacement_quiet
  have due := (dueAt_changes quiet).framed
  have ticked : s.tick = ((s.settle.clockTo (s.time.lmc + 1)).monitorEdge).dueAt := by simp [State.tick, h]
  rw [ticked]
  refine ⟨?_, ?_, ?_, ?_, ?_, ?_, due⟩ <;> rw [he]
  · simp [framed.lmc]
  · dsimp only; rw [clockTo_state]
  · dsimp only; rw [clockTo_selectRefin]
  · simp
  · simp
  · simp

end Sys2Proof.Machine

namespace Sys2Proof.Proofs

open Sys2Proof.Machine Sys2Proof.Safety

/-- Settles O60: every act but a mask's writing, a clearing and a reset keeps the mask and what is present. -/
theorem conditionsPersist : Obligations.ConditionsPersist := by
  unfold Obligations.ConditionsPersist
  refine ⟨fun c s t hp hc hd he h => ?_, fun s t hq h => ?_⟩
  · have kept := condsKept_of_executed (exec_executed c s t h)
    refine ⟨kept.none_absent ?_, fun hm => kept.mask ?_⟩ <;> unfold reachOf
    · cases c <;> simp_all
    · cases c <;> simp_all
  · obtain ⟨u, rfl, hu⟩ := step_executed h
    have raises : stepReach s = .raises := by unfold stepReach; rw [hq]
    rw [raises] at hu
    have kept := condsKept_of_executed hu
    exact ⟨kept.none_absent (s := { s with pending := s.pending.tail }) (by simp), kept.mask rfl⟩

/-- Settles O1: the step unfolds to the command at the front. -/
theorem stepRunsFrontCommand : Obligations.StepRunsFrontCommand := by
  unfold Obligations.StepRunsFrontCommand
  intro c rest s h
  unfold step
  rw [h]

/-- Settles O2: what falls due at a count is changes, and these touch neither counter, pins nor memory. -/
theorem idleStepCountsOnce : Obligations.IdleStepCountsOnce := by
  unfold Obligations.IdleStepCountsOnce
  intro s hq
  have ticks : step s = .next s.tick := by unfold step; rw [hq]
  refine ⟨fun h => ?_, fun h => ⟨s.tick, ticks, ?_⟩⟩
  · rw [ticks]
    simp [State.tick, h]
  · obtain ⟨u, hu, v, lmc, state, selected, pins, store, pending, hv⟩ := tick_framed h
    exact ⟨by rw [hv.lmc, lmc, hu.lmc], by rw [hv.state, state, hu.state], by rw [hv.selected, selected, hu.selected],
      by rw [hv.pins, pins, hu.pins], by rw [hv.mem, store, hu.mem], by rw [hv.pending, pending, hu.pending, hq]⟩

/-- Settles O54: the slots, lanes and routes are unused, every queue and the memory are empty. -/
theorem resetMeetsLaws : Obligations.ResetMeetsLaws := by
  unfold Obligations.ResetMeetsLaws
  have pages : PageLaw State.reset := pageLaw_of_reset rfl rfl
  have led : LedLaw State.reset := .of_reset rfl rfl
  have windows : WindowsLegal State.reset := fun r => by
    have route : State.reset.route r = Route.unused := by simp [State.route, State.reset]
    rw [route]
    exact .unused RouteCounters.zero
  exact ⟨rfl, led.slots, configsInRange_keep.reset, tagsDistinct_keep.reset, led.led, .of_reset rfl, .of_reset rfl ⟨[], rfl⟩ rfl rfl,
    .of_reset rfl rfl, pages.2, pages.1, windows, fun p hp => (by cases hp), fun p _ _ hp => (by cases hp)⟩

/-- Settles O3: the two records are those of the model's power-on and release. -/
theorem resetAndRelease : Obligations.ResetAndRelease := by
  unfold Obligations.ResetAndRelease
  refine ⟨fun s => ⟨rfl, rfl⟩, fun adr aenpol s => ⟨fun h => ⟨?_, fun hd => ?_⟩, fun h => ?_⟩⟩
  · show Host.Outcome.next (s.release adr aenpol) = _
    have address : addressOfStraps adr = if adr = 15 then 14 else BitVec.ofNat 8 adr.toNat := by
      rw [BitVec.ofNat_toNat]; rfl
    simp only [State.release, h, if_true, address]
    rfl
  · simp [State.txLine, hd]
    rfl
  · show Host.Outcome.next (s.release adr aenpol) = _
    simp [State.release, h]

end Sys2Proof.Proofs
end

section
/-! O4, O5: a word's arrival, by its parity and kind, outside a frame and inside one. -/

namespace Sys2Proof.Machine

open Sys2Proof.Safety

variable {s : State}

theorem exec_sofArrival (h : Ready s) (now : Time) (p : Bool) :
    exec (.sofArrival now p) s = .next ((s.clockTo now).receiveWord (controlWord p 0xA5)) :=
  congrArg Host.Outcome.next (actAt_of_ready h _ now)

theorem exec_dataByteArrival (h : Ready s) (w : LinkWord) : exec (.dataByteArrival w) s = .next (s.receiveWord w) :=
  congrArg Host.Outcome.next (act_of_ready h _)

theorem exec_eofArrival (h : Ready s) (p : Bool) : exec (.eofArrival p) s = .next (s.receiveWord (controlWord p 0x5A)) :=
  congrArg Host.Outcome.next (act_of_ready h _)

theorem exec_abtArrival (h : Ready s) (p : Bool) : exec (.abtArrival p) s = .next (s.receiveWord (controlWord p 0xF0)) :=
  congrArg Host.Outcome.next (act_of_ready h _)

theorem exec_idleArrival (h : Ready s) (p : Bool) : exec (.idleArrival p) s = .next (s.receiveWord (controlWord p 0x3C)) :=
  congrArg Host.Outcome.next (act_of_ready h _)

theorem exec_badCodeArrival (h : Ready s) (p : Bool) (c : Byte) :
    exec (.badCodeArrival p c) s = .next (s.receiveWord (controlWord p c)) :=
  congrArg Host.Outcome.next (act_of_ready h _)

/-! ### The word's kind -/

theorem receiveWord_data {w : LinkWord} (hp : goodParity w = true) (hc : w.getLsbD 8 = false) :
    s.receiveWord w = s.receiveByte (w.setWidth 8) false := by
  have kind : wordKind w = .data := by rw [wordKind, hc]; rfl
  rw [State.receiveWord, hp, kind]
  rfl

theorem receiveWord_sof : s.receiveWord (controlWord false 0xA5) = s.receiveSof := rfl
theorem receiveWord_eof : s.receiveWord (controlWord false 0x5A) = s.receiveEof := rfl
theorem receiveWord_abt : s.receiveWord (controlWord false 0xF0) = s.receiveAbt := rfl
theorem receiveWord_idle : s.receiveWord (controlWord false 0x3C) = s := rfl

theorem wordKind_badCode {p : Bool} {c : Byte} (h : Byte.isBadCode c = true) : wordKind (controlWord p c) = .badCode := by
  have byte : wordByte (controlWord p c) = c := by
    show BitVec.setWidth 8 ((BitVec.ofBool p ++ 1#1) ++ c) = c
    rw [BitVec.setWidth_append]
    simp
  have control : (controlWord p c).getLsbD 8 = true := by
    show ((BitVec.ofBool p ++ 1#1) ++ c).getLsbD 8 = true
    rw [BitVec.getLsbD_append, BitVec.getLsbD_append]
    rfl
  simp only [Byte.isBadCode, Bool.and_eq_true, bne_iff_ne] at h
  obtain ⟨⟨⟨h1, h2⟩, h3⟩, h4⟩ := h
  rw [wordKind, control, byte, if_neg h1, if_neg h2, if_neg h3, if_neg h4]
  rfl

theorem receiveWord_badCode {p : Bool} {c : Byte} (hp : goodParity (controlWord p c) = true) (h : Byte.isBadCode c = true) :
    s.receiveWord (controlWord p c) = s.receiveBadCode := by
  rw [State.receiveWord, hp, wordKind_badCode h]
  rfl

theorem receiveWord_parity {w : LinkWord} (h : goodParity w = false) :
    s.receiveWord w = (s.raise .linkParity).receiveByte (w.setWidth 8) true := by
  rw [State.receiveWord, h]
  rfl

/-! ### Outside a frame -/

theorem receiveByte_outside (h : s.rx.inside = false) (b : Byte) (bad : Bool) : s.receiveByte b bad = s := by
  simp [State.receiveByte, h]

theorem receiveSof_outside (h : s.rx.inside = false) : s.receiveSof = s.claimEntry := by
  simp [State.receiveSof, h]

theorem receiveEof_outside (h : s.rx.inside = false) : s.receiveEof = s := by simp [State.receiveEof, h]
theorem receiveAbt_outside (h : s.rx.inside = false) : s.receiveAbt = s := by simp [State.receiveAbt, h]

theorem receiveBadCode_outside (h : s.rx.inside = false) : s.receiveBadCode = s.raise .linkCode := by
  simp [State.receiveBadCode, h]

theorem claimEntry_room (h : s.rx.ingress.length < 4) : s.claimEntry = { s with rx := { s.rx with
    inside := true
    ingress := s.rx.ingress ++ [{ phase := .receiving, stamp := s.time.lmc, bytes := [], parityMark := false }] } } :=
  if_pos h

theorem claimEntry_full (h : 4 ≤ s.rx.ingress.length) : s.claimEntry = s.raise .ingressOverrun := if_neg (not_lt.mpr h)

/-! ### Inside a frame -/

/-- R3: the newest entry `e` is in reception, behind the complete entries `pre`. -/
structure Receiving (pre : List IngressEntry) (e : IngressEntry) (s : State) : Prop where
  inside : s.rx.inside = true
  queue : s.rx.ingress = pre ++ [e]
  newest : e.phase = .receiving
  complete : ∀ x ∈ pre, x.phase = .complete

variable {pre : List IngressEntry} {e : IngressEntry}

theorem Receiving.entry (h : Receiving pre e s) : s.receiving = some e := by
  have none : pre.find? (fun x => x.phase == .receiving) = none :=
    List.find?_eq_none.mpr fun x hx => by rw [h.complete x hx]; decide
  rw [State.receiving, h.queue, List.find?_append, none]
  simp [h.newest]

theorem Receiving.modified (h : Receiving pre e s) (f : IngressEntry → IngressEntry) :
    s.modReceiving f = { s with rx := { s.rx with ingress := pre ++ [f e] } } := by
  have kept : pre.map (fun x => if x.phase = .receiving then f x else x) = pre := by
    refine (List.map_congr_left fun x hx => ?_).trans (List.map_id pre)
    rw [h.complete x hx]; rfl
  rw [State.modReceiving, h.queue, List.map_append, kept]
  simp [h.newest]

theorem Receiving.abandoned (h : Receiving pre e s) :
    s.abandonReception = { s with rx := { s.rx with inside := false, ingress := pre } } := by
  have kept : pre.filter (fun x => x.phase != .receiving) = pre :=
    List.filter_eq_self.mpr fun x hx => by rw [h.complete x hx]; decide
  rw [State.abandonReception, h.queue, List.filter_append, kept]
  simp [h.newest]

theorem Receiving.raised (h : Receiving pre e s) (c : Condition) : Receiving pre e (s.raise c) := ⟨h.inside, h.queue, h.newest, h.complete⟩

theorem Receiving.byte (h : Receiving pre e s) (b : Byte) (bad : Bool) (room : e.bytes.length < 2048) :
    s.receiveByte b bad = { s with rx := { s.rx with
      ingress := pre ++ [{ e with bytes := e.bytes ++ [b], parityMark := e.parityMark || bad }] } } := by
  rw [State.receiveByte, if_pos h.inside, h.entry]
  dsimp only
  rw [if_neg (by simpa [Config.maxFrameBytes] using room), h.modified]

theorem Receiving.overlong (h : Receiving pre e s) (b : Byte) (bad : Bool) (full : 2048 ≤ e.bytes.length) :
    s.receiveByte b bad = ({ s with rx := { s.rx with inside := false, ingress := pre } } : State).raise .frameMalformed := by
  rw [State.receiveByte, if_pos h.inside, h.entry]
  dsimp only
  rw [if_pos (by simpa [Config.maxFrameBytes] using full), (h.raised _).abandoned]
  rfl

theorem Receiving.eof (h : Receiving pre e s) :
    s.receiveEof = { s with rx := { s.rx with inside := false, ingress := pre ++ [{ e with phase := .complete }] } } := by
  rw [State.receiveEof, if_pos h.inside, h.modified]

theorem Receiving.abt (h : Receiving pre e s) :
    s.receiveAbt = ({ s with rx := { s.rx with inside := false, ingress := pre } } : State).raise .frameAborted := by
  rw [State.receiveAbt, if_pos h.inside, (h.raised _).abandoned]
  rfl

theorem Receiving.badCode (h : Receiving pre e s) :
    s.receiveBadCode = ({ s with rx := { s.rx with inside := false, ingress := pre } } : State).raise .linkCode := by
  unfold State.receiveBadCode
  dsimp only
  rw [if_pos (h.raised _).inside, (h.raised _).abandoned]
  rfl

theorem Receiving.sof (h : Receiving pre e s) (room : pre.length < 4) :
    s.receiveSof = ({ s with rx := { s.rx with
      ingress := pre ++ [{ phase := .receiving, stamp := s.time.lmc, bytes := [], parityMark := false }] } } : State).raise
      .frameAborted := by
  rw [State.receiveSof, if_pos h.inside, (h.raised _).abandoned, claimEntry_room room]
  simp only [State.raise, h.inside]

theorem Receiving.clockTo (h : Receiving pre e s) (now : Time) : Receiving pre e (s.clockTo now) :=
  ⟨by simpa using h.inside, by simpa using h.queue, h.newest, h.complete⟩

end Sys2Proof.Machine

namespace Sys2Proof.Proofs

open Sys2Proof.Machine Sys2Proof.Safety

/-- Settles O4: the word's kind by its code, and what the receiver does with each kind in either state. -/
theorem wordsReceived : Obligations.WordsReceived := by
  unfold Obligations.WordsReceived
  refine ⟨fun s now w p c h out => ?_, fun s now pre e w p c h inside queue newest complete => ?_⟩
  · rw [exec_sofArrival h, exec_dataByteArrival h, exec_idleArrival h, exec_eofArrival h, exec_abtArrival h,
      exec_badCodeArrival h, receiveWord_sof, receiveWord_eof, receiveWord_abt, receiveWord_idle]
    have out' : (s.clockTo now).rx.inside = false := by simpa using out
    rw [receiveSof_outside out', receiveEof_outside out, receiveAbt_outside out]
    refine ⟨fun room => ?_, fun full => ?_, fun hp hc => ?_, rfl, rfl, rfl, fun hp hb => ?_⟩
    · rw [claimEntry_room (by simpa using room)]
      simp
    · rw [claimEntry_full (by simpa using full)]
    · rw [receiveWord_data hp hc, receiveByte_outside out]
    · rw [receiveWord_badCode hp hb, receiveBadCode_outside out]
  · have inFrame : Receiving pre e s := ⟨inside, queue, newest, complete⟩
    rw [exec_sofArrival h, exec_dataByteArrival h, exec_idleArrival h, exec_eofArrival h, exec_abtArrival h,
      exec_badCodeArrival h, receiveWord_sof, receiveWord_eof, receiveWord_abt, receiveWord_idle]
    refine ⟨fun hp hc room => ?_, fun hp hc full => ?_, rfl, by rw [inFrame.eof], by rw [inFrame.abt], fun hp hb => ?_, fun room => ?_⟩
    · rw [receiveWord_data hp hc, inFrame.byte _ _ room, Bool.or_false]
    · rw [receiveWord_data hp hc, inFrame.overlong _ _ full]
    · rw [receiveWord_badCode hp hb, inFrame.badCode]
    · rw [(inFrame.clockTo now).sof room]
      simp

/-- Settles O5: the parity decides before the kind. -/
theorem parityBadWordIsData : Obligations.ParityBadWordIsData := by
  unfold Obligations.ParityBadWordIsData
  intro s w h hw
  have bad : ∀ c : Byte, c = 0xA5 ∨ c = 0x5A ∨ c = 0xF0 ∨ c = 0x3C →
      s.receiveWord (controlWord true c) = (s.raise .linkParity).receiveByte c true := by
    rintro c (rfl | rfl | rfl | rfl) <;> exact receiveWord_parity (by decide)
  have here : s.clockTo s.time.lmc = s := if_pos rfl
  rw [exec_sofArrival h, exec_dataByteArrival h, exec_idleArrival h, exec_eofArrival h, exec_abtArrival h, here,
    receiveWord_parity hw, bad _ (by simp), bad _ (by simp), bad _ (by simp), bad _ (by simp)]
  refine ⟨fun out => ?_, fun pre e inside queue newest complete room => ?_⟩
  · have dropped : ∀ b, (s.raise .linkParity).receiveByte b true = s.raise .linkParity := fun b =>
      receiveByte_outside (s := s.raise .linkParity) out b true
    simp only [dropped, and_self]
  · have inFrame : Receiving pre e (s.raise .linkParity) := ⟨inside, queue, newest, complete⟩
    have byte : ∀ b, (s.raise .linkParity).receiveByte b true = ({ s with rx := { s.rx with
        ingress := pre ++ [{ e with bytes := e.bytes ++ [b], parityMark := true }] } } : State).raise .linkParity := fun b => by
      rw [inFrame.byte b true room, Bool.or_true]
      rfl
    simp only [byte, and_self]

end Sys2Proof.Proofs
end

section
/-! O6, O7: the dispatcher's checks, the bodies byte by byte, and the way of a REQUEST into the engine. -/

namespace Sys2Proof.Machine

open Sys2Proof.Safety

variable {s : State} {e : IngressEntry} {rest : List IngressEntry}

/-! ### The bodies -/

theorem audioWellFormed_iff (bs : List Byte) : audioWellFormed bs = true ↔
    bs.length = 9 + (if audioPtPresent bs then 6 else 0) + audioN bs * audioChannels bs * audioWidth bs := by
  simp only [audioWellFormed, Bool.and_eq_true, decide_eq_true_eq, beq_iff_eq]
  exact ⟨fun h => h.2, fun h => ⟨by omega, h⟩⟩

/-- R23: an item's bytes. -/
def itemBytes (x : Item) : List Byte := [x.code, BitVec.ofNat 8 x.operands.length] ++ x.operands

theorem parseItems_append (x : Item) (k : Nat) (bs : List Byte) (h : x.operands.length ≤ 255) :
    parseItems (k + 1) (itemBytes x ++ bs) = (parseItems k bs).map (x :: ·) := by
  have len : (BitVec.ofNat 8 x.operands.length : Byte).toNat = x.operands.length := by simp; omega
  simp only [itemBytes, List.cons_append, List.nil_append, parseItems, len]
  rw [if_pos (by simp), List.drop_left, List.take_left]

/-- R23: what parses, item by item, is the items' bytes one after another. -/
theorem parseItems_iff : ∀ (k : Nat) (bs : List Byte) (items : List Item), parseItems k bs = some items ↔
    items.length = k ∧ (∀ x ∈ items, x.operands.length ≤ 255) ∧ bs = items.flatMap itemBytes
  | 0, [], items => by
    cases items with
    | nil => simp [parseItems]
    | cons x xs => simp [parseItems]
  | 0, b :: bs, items => by
    cases items with
    | nil => simp [parseItems]
    | cons x xs => simp [parseItems]
  | k + 1, bs, items => by
    constructor
    · intro h
      match bs, h with
      | [], h => cases h
      | [_], h => cases h
      | code :: len :: more, h =>
        simp only [parseItems] at h
        split at h
        · rename_i hl
          obtain ⟨xs, hxs, rfl⟩ := Option.map_eq_some_iff.mp h
          obtain ⟨hk, hx, hb⟩ := (parseItems_iff k _ xs).mp hxs
          have taken : (more.take len.toNat).length = len.toNat := by simp [hl]
          refine ⟨by simp [hk], fun x hx' => ?_, ?_⟩
          · rcases List.mem_cons.mp hx' with rfl | hx'
            · have := len.isLt; simp only [taken]; omega
            · exact hx x hx'
          · rw [List.flatMap_cons, ← hb]
            simp [itemBytes, hl]
        · cases h
    · rintro ⟨hk, hx, rfl⟩
      cases items with
      | nil => cases hk
      | cons x xs =>
        rw [List.flatMap_cons, parseItems_append x k _ (hx x (by simp)),
          (parseItems_iff k _ xs).mpr ⟨by simpa using hk, fun y hy => hx y (by simp [hy]), rfl⟩]
        rfl

theorem requestItems_iff (bs : List Byte) (items : List Item) : requestItems bs = some items ↔
    1 ≤ items.length ∧ items.length ≤ 16 ∧ (byteAt bs 3).toNat = items.length ∧
      (∀ x ∈ items, x.operands.length ≤ 255) ∧ bs.drop 4 = items.flatMap itemBytes := by
  unfold requestItems
  cases hc : bs[3]? with
  | none =>
    have zero : byteAt bs 3 = 0 := by simp [byteAt, List.getD_eq_getElem?_getD, hc]
    rw [zero]
    simp only [reduceCtorEq, false_iff]
    rintro ⟨h1, -, h0, -⟩
    rw [← h0] at h1
    simp at h1
  | some c =>
    have byte : byteAt bs 3 = c := by simp [byteAt, List.getD_eq_getElem?_getD, hc]
    rw [byte]
    dsimp only
    split
    · rename_i hr
      rw [parseItems_iff]
      exact ⟨fun ⟨hk, hx, hb⟩ => ⟨hk ▸ hr.1, hk ▸ hr.2, hk.symm, hx, hb⟩, fun ⟨_, _, hk, hx, hb⟩ => ⟨hk.symm, hx, hb⟩⟩
    · rename_i hr
      simp only [reduceCtorEq, false_iff]
      rintro ⟨h1, h16, hk, -⟩
      exact hr (hk ▸ ⟨h1, h16⟩)

/-! ### The dispatcher -/

theorem exec_dispatch (h : AtHead e rest s) (now : Time) : exec (.dispatch now) s = .next ((s.clockTo now).checkFrame e) := by
  have taken : (s.clockTo now).dispatchOldest = (s.clockTo now).checkFrame e := by
    unfold State.dispatchOldest
    rw [State.clockTo_rx, h.hand, h.oldest]
    exact if_pos h.complete
  rw [← taken]
  exact congrArg Host.Outcome.next (actAt_of_ready h.ready _ now)

theorem releaseHand_released (h : s.rx.ingress = e :: rest) : s.releaseHand = released rest s := by
  unfold State.releaseHand released
  rw [h]
  rfl

theorem gone_eq (h : AtHead e rest s) (now : Time) : (s.clockTo now).releaseHand = released rest (s.clockTo now) :=
  releaseHand_released (e := e) (by simpa using h.oldest)

/-- R7, R192: a condition raised at a frame's discard. -/
theorem gone_raised (h : AtHead e rest s) (now : Time) (c : Condition) :
    ((s.clockTo now).raise c).releaseHand = (released rest (s.clockTo now)).raise c :=
  releaseHand_released (e := e) (by simpa using h.oldest)

/-- R28: a frame that passes the checks, of a kind that has an owner, is handed over. -/
theorem checkFrame_passes (h : Passes e s) (now : Time) (kind : 1 ≤ frameKindByte e.bytes ∧ frameKindByte e.bytes ≤ 4) :
    (s.clockTo now).checkFrame e = (s.clockTo now).handOver e := by
  unfold State.checkFrame
  dsimp only
  rw [State.clockTo_pins, if_neg (by have := h.header; omega), if_neg (fun h' => h.addressed.elim h'.1 h'.2), if_neg (by simp [h.undamaged]),
    if_neg (by omega), if_neg (by omega), if_pos h.body]

theorem exec_dispatch_passes (h : AtHead e rest s) (hp : Passes e s) (now : Time)
    (kind : 1 ≤ frameKindByte e.bytes ∧ frameKindByte e.bytes ≤ 4) :
    exec (.dispatch now) s = .next ((s.clockTo now).handOver e) := by
  rw [exec_dispatch h, checkFrame_passes hp now kind]

theorem endCopy_of_hand (h : s.rx.hand = some .mgmtCopy) : s.endCopy =
    { s with
      mgmt := { s.mgmt with queue := s.mgmt.queue.map (fun f => { f with copied := true }) }
      rx := { s.rx with ingress := s.rx.ingress.tail, hand := none } } := if_pos h

theorem exec_mgmtCopyEnd (h : Ready s) : exec .mgmtCopyEnd s = .next s.endCopy :=
  congrArg Host.Outcome.next (act_of_ready h _)

theorem exec_mgmtFrameBegin (h : Ready s) : exec .mgmtFrameBegin s = .next s.beginFrame :=
  congrArg Host.Outcome.next (act_of_ready h _)

/-- R178: the frames that a free engine takes, and the ones it waits with. -/
theorem beginFrame_of {f : MgmtFrame} {more : List MgmtFrame} (hp : s.mgmt.phase = .idle ∨ s.mgmt.phase = .replyWait)
    (hq : s.mgmt.queue = f :: more) : s.beginFrame =
      if !f.copied then s
      else if !f.addressed || s.tx.rep.isEmpty then
        { s with mgmt := { s.mgmt with phase := .running, todo := (requestItems f.bytes).getD [], results := [] } }
      else { s with mgmt := { s.mgmt with phase := .replyWait } } := by
  unfold State.beginFrame
  rcases hp with hp | hp <;> rw [hp, hq]

end Sys2Proof.Machine

namespace Sys2Proof.Proofs

open Sys2Proof.Machine Sys2Proof.Safety

/-- Settles O6: the body's kind decides its form, and the dispatcher's checks follow one another. -/
theorem dispatchDiscards : Obligations.DispatchDiscards := by
  unfold Obligations.DispatchDiscards
  refine ⟨fun bs => ⟨fun hk => ?_, fun hk => ?_, fun hk => ?_, fun hk => ?_, requestItems_iff bs⟩, ?_⟩
  · rw [bodyWellFormed, hk]
    exact audioWellFormed_iff bs
  · simp [bodyWellFormed, hk, soundingWellFormed]
  · simp [bodyWellFormed, hk, returnWellFormed]
  · simp [bodyWellFormed, hk, Option.isSome_iff_exists]
  · intro s now e rest h gone mine kind
    rw [exec_dispatch h]
    have dropped : (s.clockTo now).releaseHand = gone := gone_eq h now
    have raised : ∀ c, ((s.clockTo now).raise c).releaseHand = gone.raise c := gone_raised h now
    unfold State.checkFrame
    dsimp only
    rw [State.clockTo_pins]
    refine ⟨fun short => ?_, fun long other => ?_, fun long own mark hk => ?_, fun long own mark hk => ?_, fun long own mark hk => ?_,
      fun long own mark hk => ?_, fun long own mark hk bad => ?_⟩
    · rw [if_pos short, raised]
    all_goals rw [if_neg (not_lt.mpr long)]
    · rw [if_pos (not_or.mp other), dropped]
    all_goals rw [if_neg (fun h' => own.elim h'.1 h'.2), mark]
    · rw [if_pos rfl, if_neg hk, dropped]
    · rw [if_pos rfl, if_pos hk, raised]
    · rw [if_neg (by simp), if_pos hk, raised]
    · have hk : frameKindByte e.bytes = 5 := hk
      rw [if_neg (by simp), if_neg (by omega), if_pos hk, dropped]
    · have hk : 1 ≤ frameKindByte e.bytes ∧ frameKindByte e.bytes ≤ 4 := hk
      rw [if_neg (by simp), if_neg (by omega), if_neg (by omega), bad, if_neg (by simp), raised]

/-- Settles O7: the dispatcher queues a REQUEST, the copy's end frees its entry, and the engine takes it as it is addressed. -/
theorem requestTaken : Obligations.RequestTaken := by
  unfold Obligations.RequestTaken
  refine ⟨⟨fun s now e rest h hp hk => ?_, fun s h hh => ?_⟩, fun s f rest items h hphase hq hitems => ?_⟩
  · have handed : (s.clockTo now).handOver e = (s.clockTo now).dispatchRequest e := by rw [State.handOver, hk]; rfl
    rw [exec_dispatch_passes h hp now (by omega), handed, State.dispatchRequest, State.clockTo_mgmt, State.clockTo_rx,
      gone_raised h now]
    exact ⟨fun room => congrArg Host.Outcome.next (if_pos room), fun full => congrArg Host.Outcome.next (if_neg (not_lt.mpr full))⟩
  · rw [exec_mgmtCopyEnd h, endCopy_of_hand hh]
  · rw [exec_mgmtFrameBegin h, beginFrame_of hphase hq, hitems]
    refine ⟨fun hc ha => ?_, fun hc ha hr => ?_, fun hc => ?_⟩ <;> rw [hc]
    · have free : (!f.addressed || s.tx.rep.isEmpty) = true := by rcases ha with ha | ha <;> simp [ha]
      rw [if_neg (by simp), if_pos free]
      rfl
    · have busy : (!f.addressed || s.tx.rep.isEmpty) = false := by simp [ha, hr]
      rw [if_neg (by simp), if_neg (by simp [busy])]
    · exact congrArg Host.Outcome.next (if_pos rfl)

end Sys2Proof.Proofs
end

section
/-! O8 to O10: soundings answered, returns refused and returns taken. -/

namespace Sys2Proof.Machine

open Sys2Proof.Safety

variable {s : State} {e : IngressEntry} {rest : List IngressEntry}

/-! ### The slot of a timing frame (R30) -/

theorem slotTagged_none {tag : Byte} (h : tag = 0 ∨ ∀ i, (s.slot i).tag ≠ tag) : s.slotTagged tag = none := by
  refine List.find?_eq_none.mpr fun i _ hi => ?_
  simp only [Bool.and_eq_true, GroupSlot.inUse, bne_iff_ne, beq_iff_eq] at hi
  rcases h with h | h
  · exact hi.1 (hi.2.trans h)
  · exact h i hi.2

theorem mem_allSlots (i : SlotId) : i ∈ allSlots := by revert i; decide

theorem slotTagged_some (distinct : TagsDistinct s) {tag : Byte} {i : SlotId} (hi : (s.slot i).tag = tag) (h0 : tag ≠ 0) :
    s.slotTagged tag = some i := by
  cases hf : s.slotTagged tag with
  | none =>
    have := List.find?_eq_none.mp hf i (mem_allSlots i)
    simp [GroupSlot.inUse, hi] at this
    exact absurd this h0
  | some j =>
    have hj := List.find?_some hf
    simp only [Bool.and_eq_true, GroupSlot.inUse, bne_iff_ne, beq_iff_eq] at hj
    rw [distinct j i hj.1 (hj.2.trans hi.symm)]

theorem clockTo_slotTagged (now : Time) (tag : Byte) : (s.clockTo now).slotTagged tag = s.slotTagged tag := by
  simp [State.slotTagged]

theorem handOver_sounding (hk : frameKindByte e.bytes = 2) : s.handOver e = s.dispatchSounding e := by
  rw [State.handOver, hk]; rfl

theorem handOver_return (hk : frameKindByte e.bytes = 3) : s.handOver e = s.dispatchReturn e := by
  rw [State.handOver, hk]; rfl

/-! ### Soundings (R60) -/

/-- R41, R44: a map without trim shifts. -/
theorem convert_untrimmed {m : TimelineMap} (h : m.trim = 0) (l : Time) : m.convert l = m.ag + (l - m.al) := by
  simp only [TimelineMap.convert, correction, h, addTicks, timeDist, mul_zero, Int.zero_ediv, add_zero, BitVec.ofInt_toInt]

theorem answerSounding_room {i : SlotId} {m : TimelineMap} (hm : (s.slot i).map = some m) (room : s.tx.ret.length < 4)
    (stamp : Time) (bs : List Byte) : s.answerSounding i stamp bs =
      { s.setSlot i { s.slot i with answered := countUp (s.slot i).answered } with
        tx := { s.tx with ret := s.tx.ret ++
          [{ slot := i, tag := (s.slot i).tag, bytes := buildReturn s.pins.linkAddress bs (m.convert stamp) }] } } := by
  unfold State.answerSounding
  rw [hm]
  exact if_pos room

theorem answerSounding_full {i : SlotId} {m : TimelineMap} (hm : (s.slot i).map = some m) (full : 4 ≤ s.tx.ret.length)
    (stamp : Time) (bs : List Byte) : s.answerSounding i stamp bs = s.raise .returnDropped := by
  unfold State.answerSounding
  rw [hm]
  exact if_neg (not_lt.mpr full)

/-! ### Returns (R61 to R67) -/

theorem validate_some {g : GroupSlot} {c : SlotConfig} {seq : BitVec 8} {t1 deadline : Time} (hc : g.config = some c)
    (hr : g.record = some (.outstanding seq t1 deadline)) (stamp : Time) (bs : List Byte) : g.validate stamp bs =
      if byteAt bs 2 = c.leader ∧ byteAt bs 4 = seq ∧ timeAt bs 5 = t1
          ∧ 0 ≤ timeDist (timeAt bs 11) (timeAt bs 17) ∧ timeDist (timeAt bs 11) (timeAt bs 17) < 2 ^ 20 ∧ 0 ≤ timeDist t1 stamp
      then some { t1 := t1, t2 := timeAt bs 11, t3 := timeAt bs 17, t4 := stamp } else none := by
  unfold GroupSlot.validate
  rw [hc, hr]
  rfl

theorem validate_none {g : GroupSlot} (stamp : Time) (bs : List Byte)
    (bad : ∀ c seq t1 deadline, g.config = some c → g.record = some (.outstanding seq t1 deadline) →
      ¬ (byteAt bs 2 = c.leader ∧ byteAt bs 4 = seq ∧ timeAt bs 5 = t1
        ∧ 0 ≤ timeDist (timeAt bs 11) (timeAt bs 17) ∧ timeDist (timeAt bs 11) (timeAt bs 17) < 2 ^ 20 ∧ 0 ≤ timeDist t1 stamp)) :
    g.config = none ∨ g.validate stamp bs = none := by
  cases hc : g.config with
  | none => exact .inl rfl
  | some c =>
    right
    cases hr : g.record with
    | none => unfold GroupSlot.validate; rw [hc, hr]
    | some r =>
      cases r with
      | queued => unfold GroupSlot.validate; rw [hc, hr]
      | outstanding seq t1 deadline => rw [validate_some hc hr, if_neg (bad c seq t1 deadline hc hr)]

theorem takeReturn_refused {i : SlotId} {stamp : Time} {bs : List Byte}
    (h : (s.slot i).config = none ∨ (s.slot i).validate stamp bs = none) : s.takeReturn i stamp bs =
      (s.setSlot i { s.slot i with rejected := countUp (s.slot i).rejected }).releaseHand := by
  unfold State.takeReturn
  rcases h with h | h <;> rw [h]
  · rfl
  · cases (s.slot i).config <;> rfl

/-- R64 to R67, R75: where the slot is in ACQUIRE, or has a map in TRACK or LOCKED. -/
theorem takeSample_eq {g : GroupSlot} (h : g.state = .acquire ∨ (g.state = .track ∨ g.state = .locked) ∧ g.map.isSome = true)
    (c : SlotConfig) (x : Stamps) : g.takeSample c x = sampleTaken c x.t1 x.t2 x.t3 x.t4 x.path g := by
  unfold GroupSlot.takeSample sampleTaken
  dsimp only
  rw [pushHistory_eq]
  simp only [historyFloor_lt]
  split
  · rfl
  · rcases h with h | ⟨h | h, hm⟩
    · rw [h]; rfl
    · obtain ⟨m, hm⟩ := Option.isSome_iff_exists.mp hm
      rw [h, hm]; rfl
    · obtain ⟨m, hm⟩ := Option.isSome_iff_exists.mp hm
      rw [h, hm]; rfl

/-- R40: the states of a follower slot. -/
theorem follower_states {g : GroupSlot} (role : g.role = some .follower) (legal : slotLegal g = true) :
    g.state = .acquire ∨ g.state = .track ∨ g.state = .locked ∨ g.state = .holdover := by
  unfold slotLegal at legal
  rw [role] at legal
  cases hs : g.state <;> rw [hs] at legal <;> simp at legal ⊢

/-- R40, R80: what a follower slot's state may be once its sounding is completed. -/
theorem soundingCompleted_state {g : GroupSlot} (role : g.role = some .follower) (legal : slotLegal g = true) :
    (soundingCompleted g).state = .acquire ∨ ((soundingCompleted g).state = .track ∨ (soundingCompleted g).state = .locked) ∧
      (soundingCompleted g).map.isSome = true := by
  have states := follower_states role legal
  rcases states with hs | mapped
  · simp [soundingCompleted, hs]
  · obtain ⟨m, hm, -⟩ := (slotLegal_mapped role mapped).mp legal
    rcases mapped with hs | hs | hs <;> simp [soundingCompleted, filterEmptied, hs, hm]

theorem soundingCompleted_kept (g : GroupSlot) : (soundingCompleted g).config = g.config ∧ (soundingCompleted g).role = g.role ∧
    (soundingCompleted g).record = none := by
  unfold soundingCompleted
  dsimp only
  split <;> exact ⟨rfl, rfl, rfl⟩

theorem soundingFollowed_kept (c : SlotConfig) (t1 now : Time) (g : GroupSlot) : (soundingFollowed c t1 now g).state = g.state ∧
    (soundingFollowed c t1 now g).map = g.map := by
  unfold soundingFollowed
  split
  · split <;> exact ⟨rfl, rfl⟩
  · exact ⟨rfl, rfl⟩

theorem buildSounding_eq (i : SlotId) (own : Byte) (c : SlotConfig) (g : GroupSlot) :
    ({ slot := i, seq := g.seqCounter, bytes := buildSounding c.leader own g.tag g.seqCounter } : SoundingEntry) =
      soundingOf i own c g := rfl

/-- R55: a record is made, and its SOUNDING joins the class where the slot has none there. -/
theorem makeSounding_eq {i : SlotId} {c : SlotConfig} (hc : (s.slot i).config = some c) : s.makeSounding i =
    { s.setSlot i { s.slot i with record := some (.queued (s.slot i).seqCounter), seqCounter := (s.slot i).seqCounter + 1 } with
      tx := { s.tx with
        snd := if s.tx.snd.any (fun e => e.slot == i) then s.tx.snd
          else s.tx.snd ++ [soundingOf i s.pins.linkAddress c (s.slot i)] } } := by
  unfold State.makeSounding
  dsimp only
  rw [hc]
  dsimp only
  rw [buildSounding_eq, State.setSlot_tx]
  split <;> rfl

theorem makeSounding_fresh {i : SlotId} {c : SlotConfig} (hc : (s.slot i).config = some c) (fresh : ∀ e ∈ s.tx.snd, e.slot ≠ i) :
    s.makeSounding i =
    { s.setSlot i { s.slot i with record := some (.queued (s.slot i).seqCounter), seqCounter := (s.slot i).seqCounter + 1 } with
      tx := { s.tx with snd := s.tx.snd ++ [soundingOf i s.pins.linkAddress c (s.slot i)] } } := by
  have none : s.tx.snd.any (fun e => e.slot == i) = false := by simpa using fresh
  rw [makeSounding_eq hc, none]
  rfl

theorem soundingDue_unrecorded {i : SlotId} (role : (s.slot i).role = some .follower) (hr : (s.slot i).record = none) :
    s.soundingDue i = s.makeSounding i := by
  rw [State.soundingDue, if_neg (by simp [role]), hr]

theorem streamSpacing_ticks (t : Time) : addTicks t streamSpacing = t + 65536 := rfl

/-- R53: the sounding of `t1` has ended in a follower slot that holds no record and has none in its class. -/
theorem soundingEnded_eq {i : SlotId} {c : SlotConfig} (role : (s.slot i).role = some .follower) (hc : (s.slot i).config = some c)
    (hr : (s.slot i).record = none) (fresh : ∀ e ∈ s.tx.snd, e.slot ≠ i) (t1 : Time) : s.soundingEnded i t1 =
      { s.setSlot i (soundingFollowed c t1 s.time.lmc (s.slot i)) with
        tx := { s.tx with
          snd := if c.mode = .stream ∧ 0 ≤ timeDist (t1 + 65536) s.time.lmc then
              s.tx.snd ++ [soundingOf i s.pins.linkAddress c (s.slot i)]
            else s.tx.snd } } := by
  unfold State.soundingEnded
  rw [hc]
  unfold soundingFollowed
  dsimp only
  by_cases hm : c.mode = .stream
  · by_cases hd : 0 ≤ timeDist (t1 + 65536) s.time.lmc
    · rw [if_pos hm, if_pos hm, streamSpacing_ticks, if_pos hd, if_pos hd, if_pos ⟨hm, hd⟩, soundingDue_unrecorded role hr,
        makeSounding_fresh hc fresh]
    · rw [if_pos hm, if_pos hm, streamSpacing_ticks, if_neg hd, if_neg hd, if_neg fun h => hd h.2]
      rfl
  · rw [if_neg hm, if_neg hm, if_neg fun h => hm h.1]
    simp [State.setSlot, State.slot]

end Sys2Proof.Machine

namespace Sys2Proof.Proofs

open Sys2Proof.Machine Sys2Proof.Safety

/-- Settles O8: the slot is found by its tag, and a LEADING one answers through its map. -/
theorem soundingAnswered : Obligations.SoundingAnswered := by
  unfold Obligations.SoundingAnswered
  intro s now e rest h hp hk distinct tag gone
  rw [exec_dispatch_passes h hp now (by omega), handOver_sounding hk]
  have dropped : (s.clockTo now).releaseHand = gone := gone_eq h now
  have found : (s.clockTo now).slotTagged (timingTag e.bytes) = s.slotTagged tag := clockTo_slotTagged now tag
  unfold State.dispatchSounding
  rw [found]
  refine ⟨fun ht => by rw [slotTagged_none ht, dropped], fun i hi h0 => ?_⟩
  rw [slotTagged_some distinct hi h0]
  dsimp only
  rw [State.clockTo_slot]
  refine ⟨fun hl => by rw [if_neg hl, dropped], fun m hl hm htrim => ⟨fun room => ?_, fun full => ?_⟩⟩
  · rw [if_pos hl, answerSounding_room (by simpa using hm) (by simpa using room), convert_untrimmed htrim]
    have bytes : buildReturn s.pins.linkAddress e.bytes (m.ag + (e.stamp - m.al)) =
      [3, byteAt e.bytes 2, s.pins.linkAddress, byteAt e.bytes 3, byteAt e.bytes 4]
        ++ (e.bytes.drop 5).take 6 ++ beBytes 6 (m.ag + (e.stamp - m.al)).toNat ++ [0, 0, 0, 0, 0, 0] := rfl
    rw [State.clockTo_pins, bytes, State.clockTo_slot, State.clockTo_tx, ← dropped]
    rfl
  · rw [if_pos hl, answerSounding_full (by simpa using hm) (by simpa using full), gone_raised h]

/-- Settles O9: a RETURN is a follower slot's or nobody's, and validation reads its fields one by one. -/
theorem returnRejected : Obligations.ReturnRejected := by
  unfold Obligations.ReturnRejected
  intro s now e rest h hp hk distinct tag gone
  rw [exec_dispatch_passes h hp now (by omega), handOver_return hk]
  have dropped : (s.clockTo now).releaseHand = gone := gone_eq h now
  have found : (s.clockTo now).slotTagged (timingTag e.bytes) = s.slotTagged tag := clockTo_slotTagged now tag
  unfold State.dispatchReturn
  rw [found]
  refine ⟨fun ht => by rw [slotTagged_none ht, dropped], fun i hi h0 => ?_⟩
  rw [slotTagged_some distinct hi h0]
  dsimp only
  rw [State.clockTo_slot]
  refine ⟨fun hf => by rw [if_neg hf, dropped], fun hf bad => ?_⟩
  have refused := validate_none (g := (s.clockTo now).slot i) e.stamp e.bytes (by simpa using bad)
  rw [if_pos hf, takeReturn_refused refused, State.clockTo_slot, ← dropped]
  rfl

end Sys2Proof.Proofs
end

section
/-! O10: a valid return, through completion, the next sounding and the filter. -/

namespace Sys2Proof.Machine

open Sys2Proof.Safety

variable {s : State} {e : IngressEntry} {rest : List IngressEntry}

theorem setSlot_twice (i : SlotId) (g g' : GroupSlot) : (s.setSlot i g).setSlot i g' = s.setSlot i g' := by
  simp [State.setSlot]

/-- The slot and the SOUNDING class after a valid return. -/
def State.returned (i : SlotId) (g : GroupSlot) (snd : List SoundingEntry) (s : State) : State :=
  { s.setSlot i g with tx := { s.tx with snd := snd } }

/-- R61 to R67: a valid return at a follower slot. -/
theorem takeReturn_valid {i : SlotId} {c : SlotConfig} {x : Stamps} {stamp : Time} {bs : List Byte}
    (role : (s.slot i).role = some .follower) (legal : slotLegal (s.slot i) = true) (hc : (s.slot i).config = some c)
    (valid : (s.slot i).validate stamp bs = some x) (fresh : ∀ e ∈ s.tx.snd, e.slot ≠ i) :
    let done := soundingCompleted (s.slot i)
    let g := sampleTaken c x.t1 x.t2 x.t3 x.t4 x.path (soundingFollowed c x.t1 s.time.lmc done)
    let snd := if c.mode = .stream ∧ 0 ≤ timeDist (x.t1 + 65536) s.time.lmc then
        s.tx.snd ++ [soundingOf i s.pins.linkAddress c done]
      else s.tx.snd
    s.takeReturn i stamp bs = if g.blockDone.isSome then
        { s.returned i g snd with rx := { s.rx with hand := some (.timingUnit i) } }
      else (s.returned i g snd).releaseHand := by
  intro done g snd
  obtain ⟨config, role', record⟩ := soundingCompleted_kept (s.slot i)
  have completed : s.modSlot i GroupSlot.complete = s.setSlot i done := rfl
  have ended : (s.setSlot i done).soundingEnded i x.t1 =
      (s.setSlot i done).returned i (soundingFollowed c x.t1 s.time.lmc done) snd := by
    rw [soundingEnded_eq (c := c) (by simpa using role'.trans role) (by simpa using config.trans hc) (by simpa using record)
      (by simpa using fresh)]
    simp only [State.setSlot_slot_self]
    rfl
  have states : (soundingFollowed c x.t1 s.time.lmc done).state = .acquire ∨
      ((soundingFollowed c x.t1 s.time.lmc done).state = .track ∨ (soundingFollowed c x.t1 s.time.lmc done).state = .locked) ∧
        (soundingFollowed c x.t1 s.time.lmc done).map.isSome = true := by
    obtain ⟨state, map⟩ := soundingFollowed_kept c x.t1 s.time.lmc done
    rw [state, map]
    exact soundingCompleted_state role legal
  have slot : ((s.setSlot i done).returned i (soundingFollowed c x.t1 s.time.lmc done) snd).slot i =
      soundingFollowed c x.t1 s.time.lmc done := State.setSlot_slot_self _ _ _
  have sampled : ((s.setSlot i done).returned i (soundingFollowed c x.t1 s.time.lmc done) snd).modSlot i
      (fun g => g.takeSample c x) = s.returned i g snd := by
    unfold State.modSlot
    rw [slot]
    dsimp only
    rw [takeSample_eq states]
    have twice := setSlot_twice (s := s) i done (soundingFollowed c x.t1 s.time.lmc done)
    have twice' := setSlot_twice (s := s) i (soundingFollowed c x.t1 s.time.lmc done) g
    unfold State.returned
    rw [twice, ← twice']
    rfl
  have slot' : (s.returned i g snd).slot i = g := State.setSlot_slot_self _ _ _
  unfold State.takeReturn
  rw [hc, valid]
  dsimp only
  rw [completed, ended, sampled, slot']
  rfl

end Sys2Proof.Machine

namespace Sys2Proof.Proofs

open Sys2Proof.Machine Sys2Proof.Safety

/-- Settles O10: the return passes validation, and the slot goes through its three acts. -/
theorem returnTaken : Obligations.ReturnTaken := by
  unfold Obligations.ReturnTaken
  intro s now e rest i c seq t1 deadline h hp hk distinct hi h0 role legal hc hr leader hseq ht1 fresh t2 t3 q rt done g hq0 hq1 hrt
  rw [exec_dispatch_passes h hp now (by omega), handOver_return hk]
  have found : (s.clockTo now).slotTagged (timingTag e.bytes) = some i :=
    (clockTo_slotTagged now _).trans (slotTagged_some distinct hi h0)
  have valid : ((s.clockTo now).slot i).validate e.stamp e.bytes = some { t1 := t1, t2 := t2, t3 := t3, t4 := e.stamp } := by
    rw [State.clockTo_slot, validate_some hc hr]
    exact if_pos ⟨leader, hseq, ht1, hq0, hq1, hrt⟩
  have taken := takeReturn_valid (s := s.clockTo now) (i := i) (c := c) (by simpa using role) (by simpa using legal)
    (by simpa using hc) valid (by simpa using fresh)
  simp only [State.clockTo_slot, State.clockTo_tx, State.clockTo_pins, State.clockTo_rx, State.clockTo_lmc] at taken
  have path : ({ t1 := t1, t2 := t2, t3 := t3, t4 := e.stamp } : Stamps).path = (rt - q).toNat := rfl
  rw [path] at taken
  have role' : ((s.clockTo now).slot i).role = some .follower := by simpa using role
  rw [State.dispatchReturn, found]
  dsimp only
  rw [if_pos role', taken]
  by_cases hb : g.blockDone = none
  · rw [if_pos hb, if_pos hb]
    refine congrArg Host.Outcome.next ((if_neg (by show ¬ g.blockDone.isSome = true; simp [hb])).trans ?_)
    rw [releaseHand_released (e := e) (rest := rest) (by simpa [State.returned] using h.oldest)]
    simp only [released, State.returned, State.setSlot_rx, State.clockTo_rx, State.clockTo_tx]
    rfl
  · rw [if_neg hb, if_neg hb]
    refine congrArg Host.Outcome.next ((if_pos (by show g.blockDone.isSome = true; exact Option.isSome_iff_ne_none.mpr hb)).trans ?_)
    simp only [State.returned, State.clockTo_tx]
    rfl

end Sys2Proof.Proofs
end

section
/-! O20 to O23: a placement's end, and the departures. -/

namespace Sys2Proof.Machine

open Sys2Proof.Safety

variable {s : State}

/-! ### The end of a placement -/

/-- R120: the last burst of the placement has ended, and it has not been abandoned. -/
structure Placed (p : Placement) (s : State) : Prop where
  placement : s.store.placement = some p
  kept : p.abandoned = false
  written : (p.frame.n + 31) / 32 ≤ p.written

theorem Placed.due {p : Placement} (h : Placed p s) : ¬ (p.abandoned = true ∨ p.written < framePages p.frame.n) := by
  have := h.written
  simp only [h.kept, framePages, Bool.false_eq_true, false_or, not_lt]
  exact this

theorem Placed.valid {p : Placement} (h : Placed p s) {rp : Seq} (hrp : (s.route p.route).release = some rp)
    (d : 0 ≤ seqDist rp p.frame.seq) : s.completePlacement = s.settlePlacement p (.valid p.frame)
      { (s.route p.route).counters with accepted := countUp (s.route p.route).counters.accepted } := by
  rw [← settleEntry_bump p _ fun k => { k with accepted := countUp k.accepted }]
  unfold State.completePlacement
  rw [h.placement]
  dsimp only
  rw [if_neg h.due, hrp]
  simp only [not_lt.mpr d, decide_false, Bool.false_eq_true, if_false]
  rfl

theorem Placed.late {p : Placement} (h : Placed p s) {rp : Seq} (hrp : (s.route p.route).release = some rp)
    (d : seqDist rp p.frame.seq < 0) : s.completePlacement = (s.settlePlacement p .invalid
      { (s.route p.route).counters with late := countUp (s.route p.route).counters.late }).raise .frameLate := by
  rw [← settleEntry_bump p _ fun k => { k with late := countUp k.late }]
  unfold State.completePlacement
  rw [h.placement]
  dsimp only
  rw [if_neg h.due, hrp]
  simp only [d, decide_true, if_true]
  rfl

theorem exec_placementComplete (h : s.pins.inReset = false) : exec .placementComplete s = .next s.completePlacement := by
  show Host.Outcome.next (s.followUp State.completePlacement) = _
  simp [State.followUp, h]

/-! ### Departures -/

theorem exec_departureStart (h : Ready s) (now : Time) :
    exec (.departureStart now) s = .next (s.clockTo now).startDeparture :=
  congrArg Host.Outcome.next (actAt_of_ready h _ now)

theorem exec_departureEnd (h : Ready s) : exec .departureEnd s = .next s.endDeparture :=
  congrArg Host.Outcome.next (act_of_ready h _)

theorem startDeparture_held (h : s.pins.txhold = true ∨ s.tx.departing.isSome = true) : s.startDeparture = s := by
  unfold State.startDeparture
  rw [if_pos]
  rw [Bool.or_eq_true]
  exact h.symm

theorem startDeparture_free (hold : s.pins.txhold = false) (free : s.tx.departing = none) :
    s.startDeparture = s.dropStaleReturns.select := by
  simp [State.startDeparture, hold, free]

/-- R16: the entry's slot no longer leads under its tag. -/
def Stale (s : State) (x : ReturnEntry) : Prop :=
  (s.slot x.slot).tag = 0 ∨ (s.slot x.slot).tag ≠ x.tag ∨ (s.slot x.slot).state ≠ .leading

theorem returnStands_eq_false {x : ReturnEntry} (h : Stale s x) : s.returnStands x = false := by
  unfold State.returnStands GroupSlot.inUse
  rcases h with h | h | h <;> simp [h]

theorem dropStaleReturns_eq {stale rest : List ReturnEntry} (hq : s.tx.ret = stale ++ rest) (hs : ∀ x ∈ stale, Stale s x)
    (stands : ∀ e more, rest = e :: more → s.returnStands e = true) :
    s.dropStaleReturns = { s with tx := { s.tx with ret := rest } } := by
  have dropped : (stale ++ rest).dropWhile (fun e => !s.returnStands e) = rest := by
    have all : ∀ x ∈ stale, (!s.returnStands x) = true := fun x hx => by rw [returnStands_eq_false (hs x hx)]; rfl
    rw [List.dropWhile_append_of_pos all]
    cases rest with
    | nil => rfl
    | cons e more => rw [List.dropWhile_cons_of_neg (by simp [stands e more rfl])]
  rw [State.dropStaleReturns, hq, dropped]

theorem dropStaleReturns_all (hs : ∀ x ∈ s.tx.ret, Stale s x) :
    s.dropStaleReturns = { s with tx := { s.tx with ret := [] } } :=
  dropStaleReturns_eq (rest := []) (by simp) hs fun _ _ h => by cases h

theorem sofWord : controlWord false 0xA5 = 0x1A5 := by decide
theorem eofWord : controlWord false 0x5A = 0x15A := by decide

theorem putTime_eq (bs : List Byte) (off : Nat) (t : Time) :
    putTime bs off t = bs.take off ++ beBytes 6 t.toNat ++ bs.drop (off + 6) := rfl

/-- R57: the report of a departure to a record that is not QUEUED with the entry's sequence changes nothing. -/
theorem departed_other {g : GroupSlot} {seq : BitVec 8} (h : g.record ≠ some (.queued seq)) (t1 : Time) :
    g.departed seq t1 = g := by
  unfold GroupSlot.departed
  split
  · rename_i q c hr _
    refine if_neg fun hq => h ?_
    rw [hr, hq]
  · rfl

theorem departed_queued {g : GroupSlot} {seq : BitVec 8} {c : SlotConfig} (h : g.record = some (.queued seq))
    (hc : g.config = some c) (t1 : Time) :
    g.departed seq t1 = { g with record := some (.outstanding seq t1 (addTicks t1 c.timeout)) } := by
  unfold GroupSlot.departed
  split
  · rename_i q c' hr hc'
    rw [h] at hr; injection hr with hr; injection hr with hr
    rw [hc] at hc'; injection hc' with hc'
    rw [← hr, ← hc', if_pos rfl]
  · rename_i hn
    exact absurd hc (hn seq c h)

theorem departReturn_eq {e : ReturnEntry} {m : TimelineMap} (hm : (s.slot e.slot).map = some m) (rest : List ReturnEntry) :
    s.departReturn e rest = { s with tx := { s.tx with
      ret := rest, departing := some { cls := .ret, bytes := putTime e.bytes 17 (m.convert s.time.lmc) }, words := [0x1A5] } } := by
  unfold State.departReturn
  rw [hm, ← sofWord]
  rfl

theorem setSlot_self (i : SlotId) : s.setSlot i (s.slot i) = s := by simp [State.setSlot, State.slot]

/-- R193: no DEVICE-RESET rides on the frame in departure. -/
theorem resetFallsDue_iff (cls : DepartureClass) :
    s.resetFallsDue cls = true ↔ cls = .reply ∧ s.mgmt.phase = .resetWait ∧ s.tx.rep = [] := by
  simp [State.resetFallsDue, and_assoc]

theorem endDeparture_kept {d : Departing} (hd : s.tx.departing = some d)
    (h : ¬ (d.cls = .reply ∧ s.mgmt.phase = .resetWait ∧ s.tx.rep = [])) :
    s.endDeparture = { s with tx := { s.tx with departing := none, words := wordsAfterSof d.bytes } } := by
  unfold State.endDeparture
  rw [hd]
  exact if_neg fun h' => h ((resetFallsDue_iff _).mp h')

theorem endDeparture_reset {d : Departing} (hd : s.tx.departing = some d)
    (h : d.cls = .reply ∧ s.mgmt.phase = .resetWait ∧ s.tx.rep = []) :
    s.endDeparture = { State.reset with
      time := s.time, pins := s.pins, pending := s.pending
      tx := { State.reset.tx with words := wordsAfterSof d.bytes }
      store := Store.afterReset s.store.mem
      out := { s.out with reg := State.reset.out.reg }
      sense := s.sense.map (fun x => SenseInput.afterReset x.pin) } := by
  unfold State.endDeparture
  rw [hd]
  exact if_pos ((resetFallsDue_iff _).mpr h)

/-- R10, R19: a data word keeps its byte, its control flag clear and its count of ones odd. -/
theorem dataWord_spec (b : Byte) : goodParity (dataWord b) = true ∧ (dataWord b).getLsbD 8 = false ∧ (dataWord b).setWidth 8 = b := by
  revert b
  decide

end Sys2Proof.Machine

namespace Sys2Proof.Proofs

open Sys2Proof.Machine Sys2Proof.Safety

/-- Settles O20: the release point's distance decides between the two ends of a placement. -/
theorem placementSettled : Obligations.PlacementSettled := by
  unfold Obligations.PlacementSettled
  intro s p rp hr hp ha hw hrp tr entry
  have placed : Placed p s := ⟨hp, ha, hw⟩
  rw [exec_placementComplete hr]
  exact ⟨fun d => by rw [placed.valid hrp d]; rfl, fun d => by rw [placed.late hrp d]; rfl⟩

/-- Settles O21: the stale returns go, and the first class that is left is served. -/
theorem timingFramesDepart : Obligations.TimingFramesDepart := by
  unfold Obligations.TimingFramesDepart
  constructor
  · intro s now e rest h hd hh hs stale g sent
    have stale' : ∀ x ∈ (s.clockTo now).tx.ret, Stale (s.clockTo now) x := by simpa [Stale] using stale
    have slot : (s.clockTo now).slot e.slot = g := State.clockTo_slot ..
    have started : exec (.departureStart now) s = .next
        { (s.clockTo now).setSlot e.slot (g.departed e.seq now) with tx := sent } := by
      rw [exec_departureStart h, startDeparture_free (by simpa using hh) (by simpa using hd), dropStaleReturns_all stale',
        State.clockTo_tx]
      unfold State.select
      simp only [hs]
      unfold State.departSounding State.sendSof State.modSlot
      dsimp only
      rw [State.clockTo_lmc, putTime_eq, sofWord, ← slot]
      rfl
    refine ⟨fun c hr hc => ?_, fun hr => ?_⟩
    · rw [started, departed_queued hr hc]
      rfl
    · rw [started, departed_other hr, ← slot, setSlot_self]
  · intro s now stale rest e m h hd hh hret hstale htag hown hlead hm htrim
    have stale' : ∀ x ∈ stale, Stale (s.clockTo now) x := by simpa [Stale] using hstale
    have stands : ∀ x more, e :: rest = x :: more → (s.clockTo now).returnStands x = true := fun x more hx => by
      injection hx with hx _
      subst hx
      have used : e.tag ≠ 0 := hown ▸ htag
      simp [State.returnStands, GroupSlot.inUse, hown, hlead]
      exact used
    rw [exec_departureStart h, startDeparture_free (by simpa using hh) (by simpa using hd),
      dropStaleReturns_eq (rest := e :: rest) (by simpa using hret) stale' stands]
    unfold State.select
    dsimp only
    rw [departReturn_eq (m := m) (by simpa [State.slot] using hm), convert_untrimmed htrim]
    simp only [State.clockTo_lmc, State.clockTo_tx]
    rfl

/-- Settles O22: the transmitter's state and the classes in order. -/
theorem departureOrder : Obligations.DepartureOrder := by
  unfold Obligations.DepartureOrder
  refine ⟨fun s => ⟨rfl, rfl⟩, fun s => ⟨txLine_reset, fun hr hd => ?_, fun d hr hd => ?_⟩, fun s now h => ⟨fun held => ?_,
    fun hh hd hs stale => ?_⟩⟩
  · rw [txLine_free hr hd]; rfl
  · rw [txLine_sending hr hd, wordsAfterSof, eofWord]
  · rw [exec_departureStart h, startDeparture_held (by simpa using held)]
  · have stale' : ∀ x ∈ (s.clockTo now).tx.ret, Stale (s.clockTo now) x := by simpa [Stale] using stale
    rw [exec_departureStart h, startDeparture_free (by simpa using hh) (by simpa using hd), dropStaleReturns_all stale',
      State.clockTo_tx]
    unfold State.select
    simp only [hs]
    refine ⟨fun b rest hb => ?_, fun b rest hb hr => ?_, fun hb hr => ?_⟩
    · rw [hb]; rfl
    · rw [hb, hr]; rfl
    · rw [hb, hr]

/-- Settles O23: a departure's words, and the reset that rides on the last reply. -/
theorem departureEnds : Obligations.DepartureEnds := by
  unfold Obligations.DepartureEnds
  refine ⟨dataWord_spec, ?_⟩
  intro s d h hd words
  refine ⟨fun hn => ?_, fun hc hw he => ?_⟩
  · rw [exec_departureEnd h, endDeparture_kept hd hn]; rfl
  · rw [exec_departureEnd h, endDeparture_reset hd ⟨hc, hw, he⟩]; rfl

end Sys2Proof.Proofs
end

section
/-! Several lanes acting one after another under one cause (log entry 23): what becomes of each lane, and what the routes see
(R84, R102, R115, R166). -/

namespace Sys2Proof.Machine

open Sys2Proof.Safety

variable {s : State}

/-- R115: what a lane adds to the hold sequences of a route. -/
def Lane.holdOn (r : RouteId) (l : Lane) : Option Seq := if l.route = some r ∧ l.consuming then l.hold else none

theorem holds_eq (r : RouteId) : s.holds r = allLanes.filterMap fun i => (s.lane i).holdOn r := rfl

theorem holds_congr {t : State} {r : RouteId} (h : ∀ i, (t.lane i).holdOn r = (s.lane i).holdOn r) : t.holds r = s.holds r := by
  rw [holds_eq, holds_eq]
  simp only [h]

/-- What a cause makes of a lane (`after`, at a counter value), and the act of the part that performs it. -/
structure LaneCause (after : Time → Lane → Lane) (act : LaneId → State → State) : Prop where
  move : ∀ (s : State) (i : LaneId), LaneMove i (after s.time.lmc (s.lane i)) s (act i s)
  still : ∀ (s : State) (i : LaneId) (r : RouteId), (s.lane i).state ≠ .prime → (act i s).route r = s.route r
  followed : ∀ (s : State) (i : LaneId) (r : RouteId), (s.lane i).state = .prime → (s.lane i).route = some r →
    ReleaseFollowed ((act i s).holds r) (s.route r) ((act i s).route r)
  hold : ∀ (now : Time) (l : Lane) (r : RouteId), (l.state = .prime → l.route ≠ some r) →
    (after now l).holdOn r = l.holdOn r

theorem waitCause_cause : LaneCause afterWaitCause State.waitCause where
  move s i := waitCause_move i
  still s i r h := by
    unfold State.waitCause
    rw [if_neg h]
    rfl
  followed s i r hp hr := by
    unfold State.waitCause
    rw [if_pos hp]
    exact leaveTo_followed hr _
  hold now l r h := by
    unfold afterWaitCause
    cases hs : l.state
    case prime =>
      have hne := h hs
      simp [Lane.holdOn, Lane.consuming, hne]
    case play => simp [Lane.holdOn, Lane.consuming, Lane.hold, rampingDown, hs]
    all_goals rfl

theorem drainLane_cause : LaneCause afterStopCause State.drainLane where
  move s i := drainLane_move i
  still s i r h := drainLane_route_of_not_prime h r
  followed s i r hp hr := drainLane_followed hp hr
  hold now l r h := by
    unfold afterStopCause
    cases hs : l.state
    case prime =>
      have hne := h hs
      simp [Lane.holdOn, Lane.consuming, hne]
    case play => simp [Lane.holdOn, Lane.consuming, Lane.hold, rampingDown, hs]
    case rampdown => simp [Lane.holdOn, Lane.consuming, Lane.hold, hs]
    case wait => simp [Lane.holdOn, Lane.consuming, hs]
    case stop => rfl

/-- What a run of one cause over the lanes `left` does to the part. -/
structure CauseRun (after : Time → Lane → Lane) (left : LaneId → Prop) (s t : State) : Prop where
  moved : ∀ i, left i → t.lane i = after s.time.lmc (s.lane i)
  stayed : ∀ i, ¬ left i → t.lane i = s.lane i
  routes : PrimeLeft left s t
  rest : { t with lanes := s.lanes, routes := s.routes } = s

theorem CauseRun.refl (after : Time → Lane → Lane) (s : State) : CauseRun after (fun _ => False) s s where
  moved _ h := h.elim
  stayed _ _ := rfl
  routes := ⟨fun _ _ => rfl, fun _ _ h => h.elim, fun _ => rfl⟩
  rest := rfl

theorem CauseRun.time {after : Time → Lane → Lane} {left : LaneId → Prop} {t : State} (h : CauseRun after left s t) :
    t.time = s.time := by
  have := congrArg State.time h.rest
  exact this

theorem LaneMove.time {i : LaneId} {l : Lane} {t : State} (h : LaneMove i l s t) : t.time = s.time := by
  have := congrArg State.time h.rest
  exact this

/-- One more lane, before the others. -/
theorem CauseRun.cons {after : Time → Lane → Lane} {act : LaneId → State → State} (cause : LaneCause after act)
    {left : LaneId → Prop} {i : LaneId} (new : ¬ left i) {t : State} (h : CauseRun after left (act i s) t) :
    CauseRun after (fun j => j = i ∨ left j) s t := by
  have move := cause.move s i
  have other : ∀ j, left j → (act i s).lane j = s.lane j := fun j hj => move.lane_ne fun hji => new (hji ▸ hj)
  have first : ∀ r, ((s.lane i).state = .prime → (s.lane i).route ≠ some r) → (act i s).route r = s.route r := fun r hr => by
    by_cases hp : (s.lane i).state = .prime
    · exact move.route_other r (hr hp)
    · exact cause.still s i r hp
  refine ⟨fun j hj => ?_, fun j hj => ?_, ⟨fun r hr => ?_, fun r j hj hp hroute alone => ?_, fun r => ?_⟩, ?_⟩
  · by_cases hl : left j
    · rw [h.moved j hl, move.time, other j hl]
    · rcases hj with rfl | hj
      · rw [h.stayed j hl, move.lane]
      · exact absurd hj hl
  · rw [h.stayed j fun hl => hj (.inr hl), move.lane_ne fun hji => hj (.inl hji)]
  · rw [h.routes.others r fun j hl hp => ?_, first r (hr i (.inl rfl))]
    rw [other j hl] at hp ⊢
    exact hr j (.inr hl) hp
  · have later : j = i → ∀ k, left k → ((act i s).lane k).state = .prime → ((act i s).lane k).route ≠ some r := by
      intro hji k hk hpk
      rw [other k hk] at hpk ⊢
      exact alone k (fun hkj => new (hji ▸ hkj ▸ hk)) (.inr hk) hpk
    rcases hj with rfl | hj
    · have holds : t.holds r = (act j s).holds r := holds_congr fun k => by
        by_cases hk : left k
        · rw [h.moved k hk]
          exact cause.hold _ _ r (later rfl k hk)
        · rw [h.stayed k hk]
      rw [h.routes.others r (later rfl), holds]
      exact cause.followed s j r hp hroute
    · have hne : j ≠ i := fun hji => new (hji ▸ hj)
      rw [← first r (alone i hne.symm (.inl rfl))]
      refine h.routes.single r j hj (by rwa [other j hj]) (by rwa [other j hj]) fun k hk hkl hpk => ?_
      rw [other k hkl] at hpk ⊢
      exact alone k hk (.inr hkl) hpk
  · rw [h.routes.kept r, move.route r]
  · rw [← move.rest, ← h.rest]

/-- What a part has in common with an earlier one for the choice of the lanes that a cause reaches. -/
structure SameBinding (i : LaneId) (s u : State) : Prop where
  lane : u.lane i = s.lane i
  config : ∀ r, (u.route r).config = (s.route r).config

theorem CauseRun.congr {after : Time → Lane → Lane} {left left' : LaneId → Prop} {t : State} (h : CauseRun after left s t)
    (same : ∀ i, left' i ↔ left i) : CauseRun after left' s t := by
  rw [show left' = left from funext fun i => propext (same i)]
  exact h

/-- A step over each lane of a list that performs the cause on those of `left` and passes the others. -/
theorem foldl_causeRun {after : Time → Lane → Lane} {act : LaneId → State → State} (cause : LaneCause after act)
    {left : LaneId → Prop} {f : State → LaneId → State} : ∀ (l : List LaneId) (s : State), l.Nodup →
    (∀ i ∈ l, ∀ u, SameBinding i s u → (left i → f u i = act i u) ∧ (¬ left i → f u i = u)) →
    CauseRun after (fun i => i ∈ l ∧ left i) s (l.foldl f s)
  | [], s, _, _ => (CauseRun.refl after s).congr fun i => by simp
  | i :: l, s, nodup, step => by
    obtain ⟨new, nodup⟩ := List.nodup_cons.mp nodup
    obtain ⟨acts, passes⟩ := step i (by simp) s ⟨rfl, fun _ => rfl⟩
    rw [List.foldl_cons]
    by_cases hl : left i
    · rw [acts hl]
      have move := cause.move s i
      have later := foldl_causeRun cause l (act i s) nodup fun j hj u hu => step j (by simp [hj]) u
        ⟨hu.lane.trans (move.lane_ne fun hji => new (hji ▸ hj)), fun r => (hu.config r).trans (by rw [move.route r])⟩
      refine (later.cons cause fun h => new h.1).congr fun j => ?_
      rw [List.mem_cons]
      exact ⟨fun ⟨hm, hj⟩ => hm.imp_right fun hm => ⟨hm, hj⟩, fun h => h.elim (fun h => ⟨.inl h, h ▸ hl⟩) fun h => ⟨.inr h.1, h.2⟩⟩
    · rw [passes hl]
      refine (foldl_causeRun cause l s nodup fun j hj => step j (by simp [hj])).congr fun j => ?_
      rw [List.mem_cons]
      exact ⟨fun ⟨hm, hj⟩ => ⟨hm.resolve_left fun hji => hl (hji ▸ hj), hj⟩, fun ⟨hm, hj⟩ => ⟨.inr hm, hj⟩⟩

theorem mem_allLanes (i : LaneId) : i ∈ allLanes := by revert i; decide

theorem allLanes_nodup : allLanes.Nodup := by decide

/-- R166: every lane moves. -/
theorem muteLanes_run : CauseRun afterWaitCause (fun _ => True) s s.muteLanes :=
  (foldl_causeRun (left := fun _ => True) waitCause_cause allLanes s allLanes_nodup fun i _ u _ => ⟨fun _ => rfl, fun h => (h trivial).elim⟩).congr
    fun i => by simp [mem_allLanes]

/-- R84: the lanes on the slot's routes move. -/
theorem signalAcquire_run (g : SlotId) : CauseRun afterWaitCause (onSlot g s) s (s.signalAcquire g) := by
  refine (foldl_causeRun (left := onSlot g s) waitCause_cause allLanes s allLanes_nodup fun i _ u hu => ?_).congr fun i => by
    simp [mem_allLanes]
  have route : u.laneRoute i = s.laneRoute i := by
    unfold State.laneRoute
    rw [hu.lane]
    simp only [hu.config]
  have reached : onSlot g s i ↔ ∃ r c, s.laneRoute i = some (r, c) ∧ c.slot = g := by
    unfold onSlot State.laneRoute
    cases (s.lane i).route with
    | none => simp
    | some q => simp
  rw [route, reached]
  cases s.laneRoute i with
  | none => simp
  | some p =>
    obtain ⟨r, c⟩ := p
    by_cases hc : c.slot = g <;> simp [hc]

end Sys2Proof.Machine
end

section
/-! O32 to O36: hold timers and output pins, sense inputs, the monitor, and the engine's items. -/

namespace Sys2Proof.Machine

open Sys2Proof.Safety

variable {s : State}

theorem exec_ampHoldExpiry (h : Ready s) (now : Time) (i : LaneId) :
    exec (.ampHoldExpiry now i) s = .next ((s.clockTo now).expireHold i) :=
  congrArg Host.Outcome.next (actAt_of_ready h _ now)

theorem enable_iff (l : Lane) : l.enable = true ↔ l.ampMode = .on ∨ l.ampMode = .auto
    ∧ (l.state = .prime ∨ l.state = .play ∨ l.state = .rampdown ∨ l.holdTimer ≠ none) := by
  unfold Lane.enable
  cases l.ampMode
  · simp
  · simp
  · simp [Lane.consuming, Option.isSome_iff_ne_none, or_assoc]

/-- R170: a value's bits leave most significant first. -/
theorem portBit_eq (p : Pair) (period : Nat) : portBit p period =
    if period < 24 then p.left.getMsbD period
    else if period < 32 then false
    else if period < 56 then p.right.getMsbD (period - 32)
    else false := by
  unfold portBit
  split
  · rename_i h
    rw [BitVec.getMsbD_eq_getLsbD]
    simp [h]
  · split
    · rfl
    · split
      · rename_i h32 h56
        rw [BitVec.getMsbD_eq_getLsbD]
        have : period - 32 < 24 := by omega
        have place : 24 - 1 - (period - 32) = 55 - period := by omega
        simp [this, place]
      · rfl

theorem exec_senseAccept (h : s.pins.inReset = false) (i : InputId) : exec (.senseAccept i) s = .next (s.senseAcceptAct i) := by
  show Host.Outcome.next (s.followUp (State.senseAcceptAct i)) = _
  simp [State.followUp, h]

theorem exec_monitorWindowEnd (h : Ready s) (edges : Nat) : exec (.monitorWindowEnd edges) s = .next (s.endWindow edges) :=
  congrArg Host.Outcome.next (act_of_ready h _)

theorem exec_unknownRequest (h : Ready s) : exec .unknownRequest s = .next s.refuseUnknown :=
  congrArg Host.Outcome.next (act_of_ready h _)

/-- A request's command, at the counter's present value, judges the item in execution. -/
theorem exec_requestCommand (h : Ready s) (q : Request) :
    ∃ body, exec (requestCommand s.time.lmc q) s = .next (s.runItem q body) := by
  have here : s.clockTo s.time.lmc = s := if_pos rfl
  have plain : ∀ f : State → State, s.act f = f s := act_of_ready h
  have timed : ∀ f : State → State, s.actAt s.time.lmc f = f s := fun f => by rw [actAt_of_ready h, here]
  cases q
  case groupSet | routeDisarm | laneBind | laneUnbind => exact ⟨_, congrArg Host.Outcome.next (timed _)⟩
  all_goals exact ⟨_, congrArg Host.Outcome.next (plain _)⟩

theorem runItem_malformed {q : Request} {item : Item} {rest : List Item} (hp : s.mgmt.phase = .running)
    (hi : s.mgmt.todo = item :: rest) (hc : item.code = q.code) (hl : item.operands.length ≠ q.operandLength)
    (body : List Byte → State → State) : s.runItem q body = s.finishItem .malformedRequest [] := by
  rw [State.runItem, hp, hi]
  dsimp only
  rw [if_pos hc, if_pos hl]

theorem runItem_noRoom {q : Request} {item : Item} {rest : List Item} (hp : s.mgmt.phase = .running)
    (hi : s.mgmt.todo = item :: rest) (hc : item.code = q.code) (hl : item.operands.length = q.operandLength)
    (hr : s.replyFits q = false) (body : List Byte → State → State) : s.runItem q body = s.finishItem .refusedSpace [] := by
  rw [State.runItem, hp, hi]
  dsimp only
  rw [if_pos hc, if_neg (not_not.mpr hl), hr]
  rfl

theorem knownCode_iff (c : Byte) : knownCode c = true ↔ ∃ q : Request, q.code = c := by
  have all : ∀ q : Request, q ∈ allRequests := by intro q; cases q <;> decide
  simp only [knownCode, List.any_eq_true, beq_iff_eq]
  exact ⟨fun ⟨q, _, hq⟩ => ⟨q, hq⟩, fun ⟨q, hq⟩ => ⟨q, all q, hq⟩⟩

theorem refuseUnknown_of {item : Item} {rest : List Item} (hp : s.mgmt.phase = .running) (hi : s.mgmt.todo = item :: rest)
    (h : ∀ q : Request, q.code ≠ item.code) : s.refuseUnknown = s.finishItem .unknownRequest [] := by
  have unknown : ¬ knownCode item.code = true := fun hk => by
    obtain ⟨q, hq⟩ := (knownCode_iff _).mp hk
    exact h q hq
  rw [State.refuseUnknown, hp, hi]
  exact if_neg unknown

theorem judgedActive_eq (count : Nat) : judgedActive count = decide (4000 ≤ count ∧ count ≤ 4192) := by
  rw [judgedActive, Bool.decide_and]

/-- R176: the mute stands where an input's own latch does. -/
theorem muted_of_latch {i : InputId} (h : (s.input i).latch = true) : s.muted = true := by
  unfold State.muted
  match i, h with
  | 0, h => rw [h]; rfl
  | 1, h => rw [h, Bool.or_true]

/-- R175, R176: an activation, once its level has stood. -/
theorem senseAcceptAct_active {i : InputId} (run : 48 ≤ (s.input i).run) (ha : (s.input i).accepted = false) :
    let latched := (s.input i).latch || (s.input i).action == .muteAll
    let t := (s.setInput i { s.input i with accepted := true, run := 0, latch := latched }).raise (if i = 0 then .sense0 else .sense1)
    s.senseAcceptAct i = if !s.muted && latched then t.muteLanes else t := by
  intro latched t
  unfold State.senseAcceptAct
  dsimp only
  rw [if_neg (by simpa [Config.debounce] using run), if_neg (by simp [ha])]
  rfl

theorem senseAcceptAct_inactive {i : InputId} (run : 48 ≤ (s.input i).run) (ha : (s.input i).accepted = true) :
    s.senseAcceptAct i = s.setInput i { s.input i with accepted := false, run := 0 } := by
  unfold State.senseAcceptAct
  dsimp only
  rw [if_neg (by simpa [Config.debounce] using run), if_pos ha]

/-- R179: DONE goes on to a next item. -/
theorem finishItem_next {item : Item} {rest : List Item} (hi : s.mgmt.todo = item :: rest) (hr : rest ≠ []) (data : List Byte) :
    s.finishItem .done data = { s with mgmt := { s.mgmt with
      phase := .running, todo := rest, results := s.mgmt.results ++ [itemResult item.code .done data] } } := by
  rw [State.finishItem, hi]
  exact if_pos ⟨rfl, hr⟩

theorem finishItem_last {item : Item} {rest : List Item} (hi : s.mgmt.todo = item :: rest) {st : Status} (h : st ≠ .done ∨ rest = [])
    (data : List Byte) : s.finishItem st data =
      s.endExecution (s.mgmt.results ++ [itemResult item.code st data] ++ rest.map notRunResult) := by
  rw [State.finishItem, hi]
  exact if_neg fun h' => h.elim (fun h => h h'.1) fun h => h'.2 h

theorem endExecution_addressed {f : MgmtFrame} {queue : List MgmtFrame} (hq : s.mgmt.queue = f :: queue)
    (ha : f.addressed = true) (hr : s.tx.rep = []) (results : List ItemResult) : s.endExecution results =
      { s with
        tx := { s.tx with rep := [buildReply (frameSource f.bytes) s.pins.linkAddress results] }
        mgmt := { queue := queue, phase := .idle, todo := [], results := [] } } := by
  simp [State.endExecution, State.frameInHand, State.offerReply, hq, ha, hr]

theorem endExecution_broadcast {f : MgmtFrame} {queue : List MgmtFrame} (hq : s.mgmt.queue = f :: queue)
    (ha : f.addressed = false) (results : List ItemResult) : s.endExecution results =
      { s with mgmt := { queue := queue, phase := .idle, todo := [], results := [] } } := by
  simp [State.endExecution, State.frameInHand, hq, ha]

end Sys2Proof.Machine

namespace Sys2Proof.Proofs

open Sys2Proof.Machine Sys2Proof.Safety

/-- Settles O32: the timer by its value, the enable by the amp mode, and the lines by the counter. -/
theorem enablesAndPortLines : Obligations.EnablesAndPortLines := by
  unfold Obligations.EnablesAndPortLines
  refine ⟨fun s now i h => ?_, enable_iff, fun s i => ⟨fun hr => ?_, fun hr => ?_⟩⟩
  · rw [exec_ampHoldExpiry h, State.expireHold, State.clockTo_lane, State.clockTo_lmc]
    refine ⟨fun ht => ?_, fun ht => by rw [if_neg ht]⟩
    rw [if_pos ht, State.modLane, State.clockTo_lane]
  · simp [State.aenPin, State.sclk, State.sfrm, State.spLine, hr]
  · refine ⟨?_, by simp [State.sclk, hr], by simp [State.sfrm, hr], ?_⟩
    · simp only [State.aenPin, hr, Bool.false_eq_true, if_false]
      cases s.pins.aenpol <;> cases (s.lane i).enable <;> rfl
    · intro period
      rw [State.spLine, hr, Bool.not_false, Bool.true_and, portBit_eq]

/-- Settles O33: the acceptance writes the input, and the first latch set mutes the lanes one after another. -/
theorem senseAccepted : Obligations.SenseAccepted := by
  unfold Obligations.SenseAccepted
  intro s i hr hrun x raised
  rw [exec_senseAccept hr]
  refine ⟨fun ha => by rw [senseAcceptAct_inactive hrun ha], fun ha quiet => ?_, fun ha hm h0 h1 => ?_⟩
  · have unmoved : (!s.muted && (x.latch || x.action == .muteAll)) = false := by
      rw [Bool.and_eq_false_iff, Bool.not_eq_false']
      rcases quiet with hn | hl | hl
      · cases hx : x.latch with
        | true => exact .inl (muted_of_latch hx)
        | false => exact .inr (by simp [hn])
      · exact .inl (muted_of_latch hl)
      · exact .inl (muted_of_latch hl)
    rw [senseAcceptAct_active hrun ha]
    exact congrArg Host.Outcome.next (if_neg (by rw [unmoved]; simp))
  · have moves : (!s.muted && (x.latch || x.action == .muteAll)) = true := by simp [State.muted, h0, h1, hm]
    rw [senseAcceptAct_active hrun ha]
    have latched : (x.latch || x.action == .muteAll) = true := by simp [hm]
    have run := muteLanes_run (s := raised (s.setInput i { x with accepted := true, run := 0, latch := true }))
    refine ⟨_, congrArg Host.Outcome.next (if_pos moves), ?_⟩
    dsimp only
    rw [latched]
    exact ⟨fun j => run.moved j trivial, ⟨run.routes.others, run.routes.single, run.routes.kept⟩, run.rest⟩

/-- Settles O34: the window's count is judged, and the timebase's state says what follows. -/
theorem monitorWindowJudged : Obligations.MonitorWindowJudged := by
  unfold Obligations.MonitorWindowJudged
  intro s edges h count fresh
  rw [exec_monitorWindowEnd h]
  refine congrArg Host.Outcome.next ?_
  unfold State.endWindow
  rw [judgedActive_eq]
  show _ = match s.time.state, decide (4000 ≤ s.time.monitorEdges + edges ∧ s.time.monitorEdges + edges ≤ 4192) with
    | .pending, true => (fresh .refin).raise .refinActive
    | .refin, false => (fresh .pending).raise .refinLost
    | st, _ => fresh st
  have same : ∀ st, s.time.state = st → ({ s with time := { s.time with monitorEdges := 0 } } : State) = fresh st := by
    rintro _ rfl; rfl
  cases hs : s.time.state <;> cases decide (4000 ≤ s.time.monitorEdges + edges ∧ s.time.monitorEdges + edges ≤ 4192)
  case pending.true => rfl
  case refin.false => rfl
  all_goals exact same _ hs

/-- Settles O35: the item's end is a next item's start or the list's end, answered where the frame is addressed. -/
theorem itemEnds : Obligations.ItemEnds := by
  unfold Obligations.ItemEnds
  intro s st data item rest f queue hi hq result results idle reply
  refine ⟨fun hd hr => ?_, fun hl ha hr => ?_, fun hl ha => ?_⟩
  · subst hd
    rw [finishItem_next hi hr]
    rfl
  · rw [finishItem_last hi hl, endExecution_addressed hq ha hr]
    rfl
  · rw [finishItem_last hi hl, endExecution_broadcast hq ha]

/-- Settles O36: the item's code, its length and the reply's room are judged in that order. -/
theorem itemsJudged : Obligations.ItemsJudged := by
  unfold Obligations.ItemsJudged
  refine ⟨fun s item rest h hp hi hu => ?_, fun s q item rest f queue h hp hi hc hq => ?_, fun s st data => finishItem_undo st data⟩
  · rw [exec_unknownRequest h, refuseUnknown_of hp hi hu]
  · obtain ⟨body, hx⟩ := exec_requestCommand h q
    rw [hx]
    refine ⟨fun hl => by rw [runItem_malformed hp hi hc hl], fun hl ha hlong => ?_⟩
    have full : s.replyFits q = false := by
      simp only [State.replyFits, State.frameInHand, hq, List.head?_cons, ha, hi, State.replyLength, Config.maxFrameBytes,
        Bool.not_true, Bool.false_or, decide_eq_false_iff_not, not_le, List.length_cons, Nat.add_sub_cancel]
      exact hlong
    rw [runItem_noRoom hp hi hc hl full]

end Sys2Proof.Proofs
end

section
/-! O14 to O16: what a filter result and a lost sounding do to a slot. -/

namespace Sys2Proof.Machine

open Sys2Proof.Safety

variable {s : State}

/-! ### The lock machine's falls -/

theorem exec_holdoverEntered (h : s.pins.inReset = false) (i : SlotId) :
    exec (.holdoverEntered i) s = .next (s.holdoverAct i) := by
  show Host.Outcome.next (s.followUp (State.holdoverAct i)) = _
  simp [State.followUp, h]

theorem exec_leaderLost (h : s.pins.inReset = false) (i : SlotId) : exec (.leaderLost i) s = .next (s.leaderLostAct i) := by
  show Host.Outcome.next (s.followUp (State.leaderLostAct i)) = _
  simp [State.followUp, h]

theorem exec_filterBlockComplete (h : s.pins.inReset = false) (i : SlotId) :
    exec (.filterBlockComplete i) s = .next (s.filterBlockAct i) := by
  show Host.Outcome.next (s.followUp (State.filterBlockAct i)) = _
  simp [State.followUp, h]

/-- R84: what the signal to a slot's lanes does, its rest said of the part before the fall. -/
structure Signalled (g : SlotId) (s u t : State) : Prop where
  reached : ∀ j, onSlot g s j → t.lane j = afterWaitCause s.time.lmc (s.lane j)
  passed : ∀ j, ¬ onSlot g s j → t.lane j = s.lane j
  routes : PrimeLeft (onSlot g s) s t
  rest : { t with lanes := u.lanes, routes := u.routes } = u

/-- R84: the signal after an act that has left time, lanes and routes alone. -/
theorem signalAcquire_signalled (g : SlotId) {u : State} (time : u.time = s.time) (lanes : u.lanes = s.lanes)
    (routes : u.routes = s.routes) : Signalled g s u (u.signalAcquire g) := by
  have run := signalAcquire_run (s := u) g
  have lane : u.lane = s.lane := by funext j; simp only [State.lane, lanes]
  have route : u.route = s.route := by funext r; simp only [State.route, routes]
  have on : onSlot g u = onSlot g s := by funext j; simp only [onSlot, lane, route]
  rw [on] at run
  refine ⟨fun j hj => ?_, fun j hj => ?_, ⟨fun r => ?_, fun r j => ?_, fun r => ?_⟩, run.rest⟩
  · rw [run.moved j hj, time, lane]
  · rw [run.stayed j hj, lane]
  · simpa only [lane, route] using run.routes.others r
  · simpa only [lane, route] using run.routes.single r j
  · simpa only [lane, route] using run.routes.kept r

/-! ### The result of a block -/

theorem filterBlockAct_eq {i : SlotId} {c : SlotConfig} {t4 : Time} (hd : (s.slot i).blockDone = some t4)
    (hc : (s.slot i).config = some c) (hs : (s.slot i).state = .track ∨ (s.slot i).state = .locked) :
    s.filterBlockAct i = ((s.publishResult i ((s.slot i).result c)).handleResult i c ((s.slot i).result c).e t4).releaseReturn i := by
  unfold State.filterBlockAct
  rw [hd, hc]
  exact if_pos hs

/-- R68: the slot once its result is written. -/
def GroupSlot.published (c : SlotConfig) (g : GroupSlot) : GroupSlot :=
  { g.restartFilter with lastResult := some (g.result c), ready := true, blockDone := none }

theorem publishResult_eq (i : SlotId) (c : SlotConfig) : s.publishResult i ((s.slot i).result c) =
    (s.setSlot i ((s.slot i).published c)).raise .measureReady := rfl

/-- R63: releasing a return whose act has ended. -/
theorem releaseReturn_eq (i : SlotId) : s.releaseReturn i = { s with
    rx := if s.rx.hand = some (.timingUnit i) then { s.rx with ingress := s.rx.ingress.tail, hand := none } else s.rx } := by
  unfold State.releaseReturn
  by_cases h : s.rx.hand = some (.timingUnit i)
  · rw [if_pos h, if_pos h]
    rfl
  · rw [if_neg h, if_neg h]

/-! ### The window test -/

/-- R76, R77: the runs after a result. -/
theorem countRun_eq (inside : Bool) (g : GroupSlot) : g.countRun inside = { g with
    insideRun := if inside then countUp g.insideRun else 0, outsideRun := if inside then 0 else countUp g.outsideRun } := by
  cases inside <;> rfl

/-- R76, R77: the test locks the slot. -/
def GroupSlot.locks (c : SlotConfig) (inside : Bool) (g : GroupSlot) : Bool :=
  g.state == .track && inside && decide (c.lockCount ≤ if inside then countUp g.insideRun else 0)

/-- R76, R77: the test takes the slot out of LOCKED. -/
def GroupSlot.unlocks (c : SlotConfig) (inside : Bool) (g : GroupSlot) : Bool :=
  g.state == .locked && !inside && decide (c.unlockCount ≤ if inside then 0 else countUp g.outsideRun)

/-- R76, R77, R82: the slot after the test. -/
def GroupSlot.tested (c : SlotConfig) (inside : Bool) (g : GroupSlot) : GroupSlot :=
  { g with
    state := if g.locks c inside then .locked else if g.unlocks c inside then .track else g.state
    insideRun := if g.locks c inside || g.unlocks c inside then 0 else if inside then countUp g.insideRun else 0
    outsideRun := if g.locks c inside || g.unlocks c inside then 0 else if inside then 0 else countUp g.outsideRun }

/-- R76, R77: the conditions the test raises. -/
def GroupSlot.testRaises (c : SlotConfig) (inside : Bool) (g : GroupSlot) (present : BitVec 32) : BitVec 32 :=
  present ||| (if g.locks c inside then Condition.mask .lockGained else 0)
    ||| (if g.unlocks c inside then Condition.mask .lockLost else 0)

theorem windowTest_eq (i : SlotId) (c : SlotConfig) (e : Int) : s.windowTest i c e =
    { s.setSlot i ((s.slot i).tested c (isInside c e)) with
      cond := { s.cond with present := (s.slot i).testRaises c (isInside c e) s.cond.present } } := by
  unfold State.windowTest State.modSlot
  dsimp only
  rw [State.setSlot_slot_self, setSlot_twice, setSlot_twice, countRun_eq]
  unfold GroupSlot.tested GroupSlot.testRaises
  by_cases hl : (s.slot i).locks c (isInside c e) = true
  · have hu : (s.slot i).unlocks c (isInside c e) = false := by
      simp only [GroupSlot.locks, GroupSlot.unlocks, Bool.and_eq_true, beq_iff_eq] at hl ⊢
      simp [hl.1.1]
    rw [if_pos (by simpa [GroupSlot.locks, and_assoc] using hl), hl, hu]
    simp [GroupSlot.enterState, State.raise]
  · rw [if_neg (by simpa [GroupSlot.locks, and_assoc] using hl)]
    rw [Bool.not_eq_true] at hl
    by_cases hu : (s.slot i).unlocks c (isInside c e) = true
    · rw [if_pos (by simpa [GroupSlot.unlocks, and_assoc] using hu), hl, hu]
      simp [GroupSlot.enterState, State.raise]
    · rw [if_neg (by simpa [GroupSlot.unlocks, and_assoc] using hu)]
      rw [Bool.not_eq_true] at hu
      rw [hl, hu]
      simp
      rfl

/-- R70 to R77: a result that is not gross. -/
theorem handleResult_fine {i : SlotId} {c : SlotConfig} {e : Int} (h : isGross e = false) (t4 : Time) :
    let g := (s.slot i).discipline c e t4
    s.handleResult i c e t4 = { s.setSlot i (g.tested c (isInside c e)) with
      cond := { s.cond with present := g.testRaises c (isInside c e) s.cond.present } } := by
  intro g
  have slot : (s.modSlot i fun g => g.discipline c e t4).slot i = g := State.setSlot_slot_self s i _
  unfold State.handleResult
  rw [h, if_neg (by simp), windowTest_eq, slot]
  exact congrArg (fun u : State => { s with
    slots := u.slots, cond := { s.cond with present := g.testRaises c (isInside c e) s.cond.present } })
    (setSlot_twice (s := s) i g (g.tested c (isInside c e)))

/-- R78: the fall of a gross result, before its signal. -/
def State.fallen (i : SlotId) (s : State) : State :=
  { s.setSlot i { s.slot i with state := .acquire, map := none, insideRun := 0, outsideRun := 0 } with
    cond := { s.cond with
      present := s.cond.present ||| (if (s.slot i).state = .locked then Condition.mask .lockLost else 0) } }

theorem grossFall_eq (i : SlotId) : s.grossFall i = (s.fallen i).signalAcquire i := by
  unfold State.grossFall State.fallen
  by_cases h : (s.slot i).state = .locked
  · simp only [if_pos h]
    rfl
  · simp only [if_neg h, BitVec.ofNat_eq_ofNat, BitVec.or_zero]
    rfl

/-! ### The numbers of R68 to R72 -/

theorem meanError_eq (n : Nat) (sum : Int) : 1 ≤ n → n ≤ 8 → meanError n sum =
    match n with
    | 1 => sum * 4
    | 2 => sum * 2
    | 3 => sum
    | n => (sum + 2 ^ (n - 4)) / 2 ^ (n - 3) := by
  intro lo hi
  interval_cases n <;> simp [meanError]

theorem shifts_eq {response a b : Nat} (h : [(0, 0), (1, 1), (1, 2), (2, 3), (3, 4)][response]? = some (a, b)) :
    phaseShift response = a ∧ integralShift response = b := by
  have range : response < 5 := by
    by_contra hn
    rw [List.getElem?_eq_none (by simpa using hn)] at h
    cases h
  interval_cases response <;> simp at h <;> obtain ⟨rfl, rfl⟩ := h <;> exact ⟨rfl, rfl⟩

theorem isGross_iff (e : Int) : isGross e = true ↔ 16777216 ≤ e.natAbs := by
  unfold isGross
  rw [decide_eq_true_iff]
  exact Iff.rfl

end Sys2Proof.Machine

namespace Sys2Proof.Proofs

open Sys2Proof.Machine Sys2Proof.Safety

/-- Settles O16: the two acts, the second with its lanes signalled. -/
theorem lossTransitions : Obligations.LossTransitions := by
  unfold Obligations.LossTransitions
  refine ⟨fun s i hr hd hs => ?_, fun s i hr hd hs => ?_⟩
  · rw [exec_holdoverEntered hr]
    exact congrArg Host.Outcome.next (if_pos ⟨hd, hs⟩)
  · rw [exec_leaderLost hr]
    have signalled := signalAcquire_signalled (s := s) i
      (u := (s.modSlot i (fun g => { g.enterState .acquire with lossDue := none, map := none })).raise .leaderLost) rfl rfl rfl
    have slots := congrArg State.slots signalled.rest
    refine ⟨_, congrArg Host.Outcome.next (if_pos ⟨hd, hs⟩), ?_, fun j hj => ?_, signalled.reached, signalled.passed,
      congrArg State.cond signalled.rest, signalled.routes, ?_⟩
    · exact (congrArg (fun v : Vector GroupSlot 4 => v[i]) slots).trans (State.setSlot_slot_self s i _)
    · exact (congrArg (fun v : Vector GroupSlot 4 => v[j]) slots).trans (State.setSlot_slot_ne s i j _ hj)
    · exact congrArg (fun u : State => { u with slots := s.slots, cond := s.cond, lanes := s.lanes, routes := s.routes }) signalled.rest

/-- Settles O15: the result is published, the slot falls, its lanes are signalled, and the return is released. -/
theorem grossResultReacquires : Obligations.GrossResultReacquires := by
  unfold Obligations.GrossResultReacquires
  intro s i c t4 hr hd hc hs g e gross
  rw [exec_filterBlockComplete hr, filterBlockAct_eq hd hc hs, publishResult_eq]
  unfold State.handleResult
  rw [if_pos (show isGross ((s.slot i).result c).e = true from (isGross_iff e).mpr gross), grossFall_eq, releaseReturn_eq]
  have slot : ((s.setSlot i ((s.slot i).published c)).raise .measureReady).slot i = (s.slot i).published c :=
    State.setSlot_slot_self s i _
  have signalled := signalAcquire_signalled (s := s) i
    (u := ((s.setSlot i ((s.slot i).published c)).raise .measureReady).fallen i) rfl rfl rfl
  have rx := congrArg State.rx signalled.rest
  have slots : _ = s.slots.set i.val _ i.isLt := (congrArg State.slots signalled.rest).trans
    (congrArg State.slots (setSlot_twice (s := s) i ((s.slot i).published c) _))
  rw [slot] at slots
  have cond := congrArg State.cond signalled.rest
  refine ⟨_, rfl, ?_, fun j hj => ?_, signalled.reached, signalled.passed, ?_, ?_,
    ⟨signalled.routes.others, signalled.routes.single, signalled.routes.kept⟩, ?_⟩
  · exact (congrArg (fun v : Vector GroupSlot 4 => v[i]) slots).trans (State.setSlot_slot_self s i _)
  · exact (congrArg (fun v : Vector GroupSlot 4 => v[j]) slots).trans (State.setSlot_slot_ne s i j _ hj)
  · exact congrArg (fun rx : Receiver => if rx.hand = some (.timingUnit i) then
      { rx with ingress := rx.ingress.tail, hand := none } else rx) rx
  · refine cond.trans ?_
    unfold State.fallen
    rw [slot]
    rfl
  · exact congrArg (fun u : State => { u with slots := s.slots, rx := s.rx, cond := s.cond, lanes := s.lanes, routes := s.routes })
      signalled.rest

/-- Settles O14: the result is published, the map disciplined, the window tested, and the return released. -/
theorem filterResultDisciplined : Obligations.FilterResultDisciplined := by
  unfold Obligations.FilterResultDisciplined
  intro s i c t4 m a b hr hd hc range hm hs shifts g raw e integ inside ins out locks unlocks fine
  rw [exec_filterBlockComplete hr, filterBlockAct_eq hd hc hs, publishResult_eq]
  have samples : 1 ≤ c.filterN ∧ c.filterN ≤ 8 := by
    simp only [configInRange, Bool.and_eq_true, decide_eq_true_eq] at range
    tauto
  obtain ⟨phase, integral⟩ := shifts_eq shifts
  have value : ((s.slot i).result c).e = e := by
    show clampInt _ _ (meanError c.filterN g.errSum) = _
    rw [meanError_eq _ _ samples.1 samples.2]
    rfl
  have slot : ((s.setSlot i ((s.slot i).published c)).raise .measureReady).slot i = (s.slot i).published c :=
    State.setSlot_slot_self s i _
  let led : GroupSlot := { (s.slot i).published c with
    lastResult := some { e := e, p := g.pathSum / 2 ^ c.filterN, n := 2 ^ c.filterN, rejected := g.rejected }
    integrator := integ
    map := some { al := t4, ag := addTicks (m.convert t4) (e / 2 ^ (a + 4)), trim := clampInt (-8192) 8192 (integ / 256) } }
  have disciplined : ((s.slot i).published c).discipline c e t4 = led := by
    have integrator : integrate c.response g.integrator e = integ := by
      unfold integrate
      rw [integral, Nat.cast_pow, Nat.cast_ofNat]
      rfl
    have step : phaseStep c.response e = e / 2 ^ (a + 4) := by
      unfold phaseStep
      rw [phase, Nat.cast_pow, Nat.cast_ofNat]
    have map : ((s.slot i).published c).map = some m := hm
    have result : ((s.slot i).published c).lastResult =
        some { e := e, p := g.pathSum / 2 ^ c.filterN, n := 2 ^ c.filterN, rejected := g.rejected } :=
      congrArg (fun e => some (FilterResult.mk e (g.pathSum / 2 ^ c.filterN) (2 ^ c.filterN) g.rejected)) value
    unfold GroupSlot.discipline
    dsimp only
    rw [map, result, show ((s.slot i).published c).integrator = g.integrator from rfl, integrator, step]
    rfl
  rw [value, handleResult_fine (by rw [← Bool.not_eq_true, isGross_iff]; omega), slot, disciplined, releaseReturn_eq]
  have twice := setSlot_twice (s := s) i ((s.slot i).published c) (led.tested c (isInside c e))
  have settled := congrArg (fun u : State => Host.Outcome.next (φ := Fault) (ρ := Refusal) ({ s with
    slots := u.slots
    rx := if s.rx.hand = some (.timingUnit i) then { s.rx with ingress := s.rx.ingress.tail, hand := none } else s.rx
    cond := { s.cond with
      present := led.testRaises c (isInside c e) (s.cond.present ||| Condition.mask .measureReady) } } : State)) twice
  exact settled

end Sys2Proof.Proofs
end

section
/-! O17 and O18: due events of soundings, at a tick, at an armed value and after a deadline. -/

namespace Sys2Proof.Machine

open Sys2Proof.Safety

variable {s : State}

/-! ### A due event by the phase of the record (R55, R56) -/

theorem soundingDue_queued {i : SlotId} {seq : BitVec 8} (hr : (s.slot i).record = some (.queued seq)) :
    s.soundingDue i = s := by
  unfold State.soundingDue
  rw [hr]
  split <;> rfl

/-- The SOUNDING class once slot `i` has been due, which holds one entry for a slot. -/
def soundingsWith (i : SlotId) (own : Byte) (c : SlotConfig) (g : GroupSlot) (snd : List SoundingEntry) : List SoundingEntry :=
  if snd.any (fun e => e.slot == i) then snd else snd ++ [soundingOf i own c g]

/-- R58: a slot whose OUTSTANDING sounding is lost. -/
def GroupSlot.soundingLost (c : SlotConfig) (g : GroupSlot) : GroupSlot :=
  { g with record := none, lost := countUp g.lost, lossDue := lossDueAt g.state c (countUp g.lost) }

theorem lose_eq {c : SlotConfig} {g : GroupSlot} (hc : g.config = some c) : { g with record := none }.lose = g.soundingLost c := by
  unfold GroupSlot.lose GroupSlot.soundingLost
  dsimp only
  rw [hc]
  simp only [lossEventFor_eq]

theorem soundingDue_new {i : SlotId} {c : SlotConfig} (role : (s.slot i).role = some .follower) (hc : (s.slot i).config = some c)
    (hr : ∀ seq, (s.slot i).record ≠ some (.queued seq)) : s.soundingDue i =
      { s.setSlot i (afterDue c (s.slot i)) with
        tx := { s.tx with snd := soundingsWith i s.pins.linkAddress c (s.slot i) s.tx.snd } } := by
  unfold State.soundingDue afterDue soundingsWith
  rw [if_neg (by simp [role])]
  rcases hrec : (s.slot i).record with _ | ⟨seq⟩ | ⟨seq, t1, deadline⟩
  · exact makeSounding_eq hc
  · exact absurd hrec (hr seq)
  · dsimp only
    have slot : (s.setSlot i ((s.slot i).soundingLost c)).slot i = (s.slot i).soundingLost c := State.setSlot_slot_self s i _
    rw [State.modSlot, lose_eq hc, makeSounding_eq (c := c) (by rw [slot]; exact hc), slot]
    exact congrArg (fun u : State => { u with
      tx := { s.tx with snd := soundingsWith i s.pins.linkAddress c (s.slot i) s.tx.snd } }) (setSlot_twice (s := s) i _ _)

/-- R53, R55: a due event of a follower slot just written, without a record. -/
theorem soundingDue_set {i : SlotId} {c : SlotConfig} {g : GroupSlot} (role : g.role = some .follower) (hc : g.config = some c)
    (hr : g.record = none) (fresh : ∀ e ∈ s.tx.snd, e.slot ≠ i) : (s.setSlot i g).soundingDue i =
      { s.setSlot i { g with record := some (.queued g.seqCounter), seqCounter := g.seqCounter + 1 } with
        tx := { s.tx with snd := s.tx.snd ++ [soundingOf i s.pins.linkAddress c g] } } := by
  have slot : (s.setSlot i g).slot i = g := State.setSlot_slot_self s i g
  rw [soundingDue_unrecorded (by rw [slot, role]) (by rw [slot, hr]), makeSounding_fresh (s := s.setSlot i g) (c := c) (by rw [slot, hc]) fresh, slot,
    setSlot_twice]
  rfl

/-- R57: the counter takes the value of the deadline. -/
theorem timeoutAct_eq {i : SlotId} {c : SlotConfig} {seq : BitVec 8} {t1 : Time} (hc : (s.slot i).config = some c)
    (hr : (s.slot i).record = some (.outstanding seq t1 s.time.lmc)) :
    s.timeoutAct i = (s.setSlot i ((s.slot i).soundingLost c)).soundingEnded i t1 := by
  unfold State.timeoutAct
  rw [hr]
  dsimp only
  rw [if_pos rfl, State.modSlot, lose_eq hc]

/-! ### The tick (R52) -/

theorem exec_tickDue (h : Ready s) (now : Time) (order : List SlotId) :
    exec (.tickDue now order) s = .next ((s.clockTo now).tickAct order) :=
  congrArg Host.Outcome.next (actAt_of_ready h _ now)

theorem exec_streamDue (h : Ready s) (now : Time) (i : SlotId) :
    exec (.streamDue now i) s = .next ((s.clockTo now).streamDueAct i) :=
  congrArg Host.Outcome.next (actAt_of_ready h _ now)

theorem exec_soundingTimeout (h : Ready s) (now : Time) (i : SlotId) :
    exec (.soundingTimeout now i) s = .next ((s.clockTo now).timeoutAct i) :=
  congrArg Host.Outcome.next (actAt_of_ready h _ now)

/-- R52: the slot is a follower in TICK mode whose bit rises. -/
def GroupSlot.ticked (now : Time) (c : SlotConfig) (g : GroupSlot) : Prop :=
  g.role = some .follower ∧ g.config = some c ∧ c.mode = .tick ∧ now.toNat % 2 ^ (c.tickBit + 1) = 2 ^ c.tickBit

theorem tickRises_iff (now : Time) (g : GroupSlot) : g.tickRises now = true ↔
    ∃ c, g.config = some c ∧ c.mode = .tick ∧ now.toNat % 2 ^ (c.tickBit + 1) = 2 ^ c.tickBit := by
  unfold GroupSlot.tickRises
  cases g.config with
  | none => simp
  | some c => simp

/-- R52, R55, R56: what the due events of the slots of a list do. -/
structure Ticked (now : Time) (l : List SlotId) (s t : State) : Prop where
  due : ∀ i c, i ∈ l → (s.slot i).ticked now c → t.slot i = afterDue c (s.slot i)
  others : ∀ i, (i ∉ l ∨ ∀ c, ¬ (s.slot i).ticked now c) → t.slot i = s.slot i
  rest : { t with slots := s.slots, tx := { t.tx with snd := s.tx.snd } } = s
  made : ∃ made : List SlotId, (∀ i, i ∈ made ↔ i ∈ l ∧ tickOffers now s i) ∧
    made.Pairwise (fun i j => l.idxOf i < l.idxOf j) ∧
    t.tx.snd = s.tx.snd ++ made.filterMap (fun i => (s.slot i).config.map (fun c => soundingOf i s.pins.linkAddress c (s.slot i)))

theorem idxOf_cons_lt {i : SlotId} {l made : List SlotId} (new : i ∉ made)
    (h : made.Pairwise (fun j k => l.idxOf j < l.idxOf k)) :
    made.Pairwise (fun j k => (i :: l).idxOf j < (i :: l).idxOf k) := by
  refine h.imp_of_mem fun {j k} hj hk hlt => ?_
  rw [List.idxOf_cons_ne _ (fun hij : i = j => new (hij ▸ hj)), List.idxOf_cons_ne _ (fun hik : i = k => new (hik ▸ hk))]
  omega

theorem ticked_offers {now : Time} {i : SlotId} (h : tickOffers now s i) : ∃ c, (s.slot i).ticked now c := by
  obtain ⟨role, ⟨c, hc, mode, rises⟩, -, -⟩ := h
  exact ⟨c, role, hc, mode, rises⟩

/-- A slot at the front of the list that its turn passes over. -/
theorem Ticked.pass {now : Time} {i : SlotId} {l : List SlotId} {t : State} (h : Ticked now l s t)
    (hd : ∀ c, (s.slot i).ticked now c → afterDue c (s.slot i) = s.slot i) (hn : ¬ tickOffers now s i) :
    Ticked now (i :: l) s t := by
  obtain ⟨made, mem, order, snd⟩ := h.made
  refine ⟨fun j c hj hc => ?_, fun j hj => ?_, h.rest, made, fun j => ?_, ?_, snd⟩
  · by_cases hl : j ∈ l
    · exact h.due j c hl hc
    · obtain rfl := (List.mem_cons.mp hj).resolve_right hl
      rw [h.others j (.inl hl), hd c hc]
  · exact h.others j (hj.imp_left fun hm hl => hm (List.mem_cons_of_mem _ hl))
  · rw [mem j, List.mem_cons]
    exact ⟨fun ⟨hl, ho⟩ => ⟨.inr hl, ho⟩, fun ⟨hl, ho⟩ => ⟨hl.resolve_left fun hji => hn (hji ▸ ho), ho⟩⟩
  · exact idxOf_cons_lt (fun hi => hn ((mem i).mp hi).2) order

theorem afterDue_kept (c : SlotConfig) (g : GroupSlot) : (afterDue c g).role = g.role ∧ (afterDue c g).config = g.config ∧
    ∃ seq, (afterDue c g).record = some (.queued seq) := by
  unfold afterDue
  rcases hrec : g.record with _ | ⟨seq⟩ | ⟨seq, t1, deadline⟩
  · exact ⟨rfl, rfl, _, rfl⟩
  · exact ⟨rfl, rfl, _, hrec⟩
  · exact ⟨rfl, rfl, _, rfl⟩

theorem afterDue_queued {c : SlotConfig} {g : GroupSlot} {seq : BitVec 8} (h : g.record = some (.queued seq)) : afterDue c g = g := by
  unfold afterDue
  rw [h]

/-- A slot at the front of the list that is due and makes a sounding. -/
theorem Ticked.due_front {now : Time} {i : SlotId} {c : SlotConfig} {l : List SlotId} {t : State} (hc : (s.slot i).ticked now c)
    (hr : ∀ seq, (s.slot i).record ≠ some (.queued seq)) (h : Ticked now l (s.soundingDue i) t) : Ticked now (i :: l) s t := by
  obtain ⟨role, config, mode, rises⟩ := hc
  rw [soundingDue_new role config hr] at h
  set u : State := { s.setSlot i (afterDue c (s.slot i)) with
    tx := { s.tx with snd := soundingsWith i s.pins.linkAddress c (s.slot i) s.tx.snd } } with hu
  have self : u.slot i = afterDue c (s.slot i) := State.setSlot_slot_self s i _
  have other : ∀ j, j ≠ i → u.slot j = s.slot j := fun j hj => State.setSlot_slot_ne s i j _ hj
  obtain ⟨role', config', seq, queued⟩ := afterDue_kept c (s.slot i)
  have snd : ∀ j, j ≠ i → ((∀ e ∈ u.tx.snd, e.slot ≠ j) ↔ ∀ e ∈ s.tx.snd, e.slot ≠ j) := fun j hj => by
    show (∀ e ∈ soundingsWith i s.pins.linkAddress c (s.slot i) s.tx.snd, e.slot ≠ j) ↔ _
    unfold soundingsWith
    split
    · exact Iff.rfl
    · simp only [List.forall_mem_append, List.forall_mem_singleton]
      exact ⟨fun h => h.1, fun h => ⟨h, fun hij => hj hij.symm⟩⟩
  have offers : ∀ j, tickOffers now u j ↔ j ≠ i ∧ tickOffers now s j := fun j => by
    by_cases hj : j = i
    · subst hj
      exact ⟨fun ho => absurd queued (self ▸ ho.2.2.1 seq), fun ho => absurd rfl ho.1⟩
    · unfold tickOffers
      rw [other j hj, snd j hj]
      exact ⟨fun ho => ⟨hj, ho⟩, fun ho => ho.2⟩
  obtain ⟨made, mem, order, ends⟩ := h.made
  have new : i ∉ made := fun hi => ((offers i).mp ((mem i).mp hi).2).1 rfl
  have entries : made.filterMap (fun j => (u.slot j).config.map (fun c => soundingOf j u.pins.linkAddress c (u.slot j))) =
      made.filterMap (fun j => (s.slot j).config.map (fun c => soundingOf j s.pins.linkAddress c (s.slot j))) :=
    List.filterMap_congr fun j hj => by
      rw [other j fun hji => new (hji ▸ hj)]
      rfl
  rw [entries] at ends
  have rest := congrArg (fun v : State => { v with slots := s.slots, tx := { v.tx with snd := s.tx.snd } }) h.rest
  refine ⟨fun j k hj hk => ?_, fun j hj => ?_, rest, ?_⟩
  · by_cases hji : j = i
    · subst hji
      obtain rfl : c = k := Option.some.inj (config.symm.trans hk.2.1)
      by_cases hl : j ∈ l
      · rw [h.due j c hl ⟨by rw [self, role', role], by rw [self, config', config], mode, rises⟩, self, afterDue_queued queued]
      · rw [h.others j (.inl hl), self]
    · rw [h.due j k ((List.mem_cons.mp hj).resolve_left hji) (by rwa [other j hji]), other j hji]
  · have hji : j ≠ i := by
      rintro rfl
      rcases hj with hm | hn
      · exact hm (List.mem_cons_self ..)
      · exact hn c ⟨role, config, mode, rises⟩
    rw [h.others j (hj.imp (fun hm hl => hm (List.mem_cons_of_mem _ hl)) (by rw [other j hji]; exact id)), other j hji]
  · have upto : soundingsWith i s.pins.linkAddress c (s.slot i) s.tx.snd = u.tx.snd := rfl
    by_cases fresh : ∀ e ∈ s.tx.snd, e.slot ≠ i
    · refine ⟨i :: made, fun j => ?_, ?_, ?_⟩
      · rw [List.mem_cons, List.mem_cons, mem j, offers j]
        constructor
        · rintro (rfl | ⟨hl, -, ho⟩)
          · exact ⟨.inl rfl, role, ⟨c, config, mode, rises⟩, hr, fresh⟩
          · exact ⟨.inr hl, ho⟩
        · rintro ⟨rfl | hl, ho⟩
          · exact .inl rfl
          · by_cases hji : j = i
            · exact .inl hji
            · exact .inr ⟨hl, hji, ho⟩
      · rw [List.pairwise_cons]
        refine ⟨fun j hj => ?_, idxOf_cons_lt new order⟩
        rw [List.idxOf_cons_self, List.idxOf_cons_ne _ (fun hij : i = j => new (hij ▸ hj))]
        omega
      · rw [ends, ← upto, soundingsWith, if_neg (by simpa using fresh), List.filterMap_cons, config]
        simp
    · refine ⟨made, fun j => ?_, idxOf_cons_lt new order, ?_⟩
      · rw [mem j, offers j, List.mem_cons]
        constructor
        · exact fun ho => ⟨.inr ho.1, ho.2.2⟩
        · rintro ⟨hl, ho⟩
          have hji : j ≠ i := fun hji => fresh (hji ▸ ho.2.2.2)
          exact ⟨hl.resolve_left hji, hji, ho⟩
      · rw [ends, ← upto, soundingsWith, if_pos (by simpa using fresh)]

/-- The due events of a list of slots at the counter value. -/
theorem foldl_ticked : ∀ (l : List SlotId) (s : State),
    Ticked s.time.lmc l s (l.foldl (fun s i => if (s.slot i).tickRises s.time.lmc then s.soundingDue i else s) s)
  | [], s => ⟨fun _ _ h => absurd h List.not_mem_nil, fun _ _ => rfl, rfl, [], fun i => by simp, .nil, by simp⟩
  | i :: l, s => by
    rw [List.foldl_cons]
    by_cases rises : (s.slot i).tickRises s.time.lmc = true
    · rw [if_pos rises]
      obtain ⟨c, config, mode, at'⟩ := (tickRises_iff _ _).mp rises
      by_cases role : (s.slot i).role = some .follower
      · have ticked : (s.slot i).ticked s.time.lmc c := ⟨role, config, mode, at'⟩
        by_cases queued : ∃ seq, (s.slot i).record = some (.queued seq)
        · obtain ⟨seq, queued⟩ := queued
          rw [soundingDue_queued queued]
          exact (foldl_ticked l s).pass (fun _ _ => afterDue_queued queued) fun ho => ho.2.2.1 seq queued
        · have hr : ∀ seq, (s.slot i).record ≠ some (.queued seq) := fun seq h => queued ⟨seq, h⟩
          have lmc : (s.soundingDue i).time.lmc = s.time.lmc := by rw [soundingDue_new role config hr]; rfl
          have later := foldl_ticked l (s.soundingDue i)
          rw [lmc] at later
          exact later.due_front ticked hr
      · have undue : s.soundingDue i = s := if_pos role
        rw [undue]
        exact (foldl_ticked l s).pass (fun _ h => absurd h.1 role) fun ho => role ho.1
    · rw [if_neg rises]
      exact (foldl_ticked l s).pass (fun c h => absurd ((tickRises_iff _ _).mpr ⟨c, h.2⟩) rises)
        fun ho => rises ((tickRises_iff _ _).mpr ho.2.1)

end Sys2Proof.Machine

namespace Sys2Proof.Proofs

open Sys2Proof.Machine Sys2Proof.Safety

/-- Settles O17: the slots of the order act one after another, each once. -/
theorem tickMakesDue : Obligations.TickMakesDue := by
  unfold Obligations.TickMakesDue
  intro s now order h fresh
  rw [exec_tickDue h]
  have untaken : (s.clockTo now).time.tickTaken = false := by
    unfold State.clockTo
    split
    next same => exact fresh.resolve_left fun hn => hn same
    next => rfl
  have everyone : ∀ i, i ∈ order ++ allSlots := fun i => List.mem_append_right _ (mem_allSlots i)
  let u : State := { s.clockTo now with time := { (s.clockTo now).time with tickTaken := true } }
  have slot : ∀ i, u.slot i = s.slot i := fun i => State.clockTo_slot s now i
  have ticked := foldl_ticked (order ++ allSlots) u
  have lmc : u.time.lmc = now := State.clockTo_lmc s now
  rw [lmc] at ticked
  obtain ⟨made, mem, placed, snd⟩ := ticked.made
  have offers : ∀ i, tickOffers now u i ↔ tickOffers now s i := fun i => by
    unfold tickOffers
    rw [slot i, show u.tx = s.tx from State.clockTo_tx s now]
  have time := congrArg State.time ticked.rest
  refine ⟨_, congrArg Host.Outcome.next (if_neg (by rw [untaken]; simp)), time, fun i c role config mode rises => ?_,
    fun i hn => ?_, ?_, made, fun i => ?_, placed, ?_⟩
  · rw [← slot i]
    exact ticked.due i c (everyone i) ⟨by rwa [slot i], by rwa [slot i], mode, rises⟩
  · rw [← slot i]
    refine ticked.others i (.inr fun c hc => ?_)
    rw [slot i] at hc
    rcases hn with role | config
    · exact role hc.1
    · exact (config c hc.2.1).elim (fun hm => hm hc.2.2.1) fun hr => hr hc.2.2.2
  · have slots : u.slots = s.slots := State.clockTo_slots s now
    have snd : u.tx.snd = s.tx.snd := congrArg Transmitter.snd (State.clockTo_tx s now)
    have whole : ({ u with time := s.time } : State) = s := by
      show ({ s.clockTo now with time := s.time } : State) = s
      unfold State.clockTo
      split <;> rfl
    rw [← slots, ← snd]
    exact (congrArg (fun v : State => { v with time := s.time }) ticked.rest).trans whole
  · rw [mem i, offers i]
    exact ⟨fun ho => ho.2, fun ho => ⟨everyone i, ho⟩⟩
  · refine snd.trans ?_
    rw [show u.tx = s.tx from State.clockTo_tx s now, show u.pins = s.pins from State.clockTo_pins s now]
    simp only [slot]

/-- Settles O18: an armed event sounds; a deadline loses the sounding and arms or makes the next. -/
theorem streamDueAndTimeout : Obligations.StreamDueAndTimeout := by
  unfold Obligations.StreamDueAndTimeout
  refine ⟨fun s now i c h hd role hc hr fresh => ?_, fun s now i c seq t1 h hr hc => ?_⟩
  · intro g
    rw [exec_streamDue h, State.streamDueAct, if_pos (by simpa using hd), State.modSlot, State.clockTo_slot,
      soundingDue_set (c := c) (g := { g with streamDue := none }) role hc hr (by simpa using fresh)]
    simp only [State.clockTo_tx, State.clockTo_pins]
    rfl
  · intro lost
    have act := timeoutAct_eq (s := s.clockTo now) (i := i) (c := c) (seq := seq) (t1 := t1)
      (by simpa using hc) (by simpa using hr)
    rw [exec_soundingTimeout h, act, State.clockTo_slot, show (s.slot i).soundingLost c = lost from rfl]
    have slot : ((s.clockTo now).setSlot i lost).slot i = lost := State.setSlot_slot_self _ i lost
    have config : lost.config = some c := hc
    have lmc : ((s.clockTo now).setSlot i lost).time.lmc = now := State.clockTo_lmc s now
    unfold State.soundingEnded
    rw [slot, config]
    dsimp only
    rw [streamSpacing_ticks, lmc]
    refine ⟨fun hm => ?_, fun hm ahead => ?_, fun hm due role fresh => ?_⟩
    · rw [if_neg hm]
    · rw [if_pos hm, if_neg (by omega), State.modSlot, slot, setSlot_twice, config]
    · rw [if_pos hm, if_pos due, soundingDue_set (c := c) (g := lost) role config rfl (by simpa using fresh)]
      simp only [State.clockTo_tx, State.clockTo_pins]
      rw [config]
      rfl

end Sys2Proof.Proofs
end

section
/-! O38, O39 and O42: STATUS, the requests on the conditions, and DEVICE-RESET. -/

namespace Sys2Proof.Machine

open Sys2Proof.Safety

variable {s : State} {ops : List Byte} {rest : List Item}

/-! ### The commands on an item that passes -/

theorem exec_status (h : Executing .status ops rest s) : exec .status s = .next (s.finishItem .done s.statusReport) :=
  congrArg Host.Outcome.next (act_runItem h statusItem)

theorem exec_conditionsClear (h : Executing .conditionsClear ops rest s) :
    exec .conditionsClear s = .next ((s.clearNamed (conditionOperand ops)).finishItem .done []) :=
  congrArg Host.Outcome.next (act_runItem h conditionsClearItem)

theorem exec_conditionsMask (h : Executing .conditionsMask ops rest s) :
    exec .conditionsMask s = .next ((s.setMask (conditionOperand ops)).finishItem .done []) :=
  congrArg Host.Outcome.next (act_runItem h conditionsMaskItem)

theorem exec_deviceReset (h : Executing .deviceReset ops rest s) : exec .deviceReset s = .next (deviceResetItem ops s) :=
  congrArg Host.Outcome.next (act_runItem h deviceResetItem)

/-! ### The conditions named -/

theorem conditionOperand_eq (h : ops.length = 4) : conditionOperand ops = BitVec.ofNat 32 (beNat ops) &&& 0x03FFFFFF := by
  rw [conditionOperand, fieldAt, List.drop_zero, List.take_of_length_le (by omega)]

theorem setInput_self (i : InputId) : s.setInput i (s.input i) = s := by
  have same : s.sense.set i.val (s.input i) i.isLt = s.sense := by simp [State.input]
  unfold State.setInput
  rw [same]

/-- R186: the latches that a set of conditions names. -/
theorem clearNamed_eq (named : BitVec 32) : s.clearNamed named =
    { s with
      cond := { s.cond with present := s.cond.present &&& ~~~ named }
      sense := #v[if named.getLsbD 24 then { s.input 0 with latch := false } else s.input 0,
                  if named.getLsbD 25 then { s.input 1 with latch := false } else s.input 1] } := by
  have first : ∀ (b : Bool) (i : InputId) (u : State), (if b then u.clearLatch i else u) =
      u.setInput i (if b then { u.input i with latch := false } else u.input i) := fun b i u => by
    cases b
    · exact (setInput_self i).symm
    · rfl
  unfold State.clearNamed
  dsimp only
  rw [first, first, State.setInput_input_ne _ _ _ _ (by decide)]
  exact setInput_both (s := s.clearConditions named) _ _

/-- R192: ATTN stands while a condition outside the mask is present. -/
theorem attn_iff : s.attn = true ↔ ∃ k, s.cond.present.getLsbD k = true ∧ s.cond.mask.getLsbD k = false := by
  unfold State.attn
  rw [bne_iff_ne]
  constructor
  · intro h
    by_contra none
    refine h (BitVec.eq_of_getLsbD_eq fun k hk => ?_)
    cases hp : s.cond.present.getLsbD k
    · simp [hp]
    · have masked : s.cond.mask.getLsbD k = true := by simpa using fun hm => none ⟨k, hp, hm⟩
      simp [masked]
  · rintro ⟨k, hp, hm⟩ h
    have width : k < 32 := by
      by_contra hk
      rw [BitVec.getLsbD_of_ge _ _ (by omega)] at hp
      cases hp
    have bit := congrArg (fun v => BitVec.getLsbD v k) h
    rw [BitVec.getLsbD_and, BitVec.getLsbD_not, hp, hm] at bit
    simp [width] at bit

/-! ### The report of STATUS -/

theorem take_flatMap {α : Type} {f : α → List Byte} {n : Nat} (h : ∀ a, (f a).length = n) : ∀ (l : List α) (k : Nat) (a : α),
    l[k]? = some a → ∀ more : List Byte, ((l.flatMap f ++ more).drop (n * k)).take n = f a
  | b :: l, 0, a, ha, more => by
    obtain rfl : b = a := by simpa using ha
    simp [h b]
  | b :: l, k + 1, a, ha, more => by
    rw [List.flatMap_cons, List.append_assoc, Nat.mul_succ, Nat.add_comm, ← List.drop_drop, List.drop_left' (h b)]
    exact take_flatMap h l k a (by simpa using ha) more

theorem length_flatMap_const {α : Type} {f : α → List Byte} {n : Nat} (h : ∀ a, (f a).length = n) (l : List α) :
    (l.flatMap f).length = n * l.length := by
  simp [List.length_flatMap, h, Nat.mul_comm]

theorem slotReport_length (g : GroupSlot) : g.report.length = 30 := by
  unfold GroupSlot.report
  cases g.map <;> simp [beBytes_length, beBytesInt]

theorem routeReport_length (t : Route) : t.report.length = 8 := by
  unfold Route.report releaseReport
  cases t.config <;> cases t.release <;> simp [beBytes_length]

/-- R183, R185: a group slot's 30 bytes. -/
theorem slotReport_eq (g : GroupSlot) : g.report =
    ([g.tag, match g.role with | some .leader => 0 | some .follower => 1 | none => 255,
      match g.state with | .idle => 0 | .leading => 1 | .acquire => 2 | .track => 3 | .locked => 4 | .holdover => 5,
      if g.map.isSome then 1 else 0] : List Byte)
    ++ (match g.map with
      | some m => beBytes 6 m.al.toNat ++ beBytes 6 m.ag.toNat ++ beBytesInt 2 m.trim
      | none => List.replicate 14 0)
    ++ beBytesInt 4 g.integrator ++ beBytes 2 g.insideRun ++ beBytes 2 g.outsideRun ++ beBytes 2 g.lost
    ++ beBytes 2 g.answered := by
  have absent : beBytes 14 0 = List.replicate 14 0 := by decide
  unfold GroupSlot.report
  rw [absent]
  rfl

/-- R183, R185: a route's 8 bytes. -/
theorem routeReport_eq (t : Route) : t.report =
    ([match t.state with | .free => 0 | .armed => 1 | .live => 2 | .draining => 3] : List Byte)
    ++ (match t.config with
      | some c => beBytes 2 c.stream.toNat ++ [BitVec.ofNat 8 c.slot.val, match c.mode with | .sink => 0 | .source => 1]
      | none => [0, 0, 0, 0])
    ++ (match t.release with
      | some q => [1] ++ beBytes 2 q.toNat
      | none => [0, 0, 0]) := rfl

/-- R183, R185: the byte of the latches. -/
theorem latchByte_eq (a b : Bool) : boolByte a ||| (boolByte b <<< 1) =
    BitVec.ofNat 8 ((if a then 1 else 0) + (if b then 2 else 0)) := by
  cases a <;> cases b <;> decide

theorem statusReport_parts : s.statusReport =
    (beBytes 4 s.cond.present.toNat ++ beBytes 4 s.cond.mask.toNat ++ [timebaseStateCode s.time.state, boolByte s.time.selectRefin]) ++
      (allSlots.flatMap (fun i => (s.slot i).report) ++ (allRoutes.flatMap (fun r => (s.route r).report)
        ++ (allLanes.flatMap (fun i => (s.lane i).report)
          ++ [boolByte (s.input 0).latch ||| (boolByte (s.input 1).latch <<< 1)]))) := by
  simp only [State.statusReport, List.append_assoc]

/-- R185: a block of the report behind the bytes before it. -/
theorem drop_prefix {α : Type} {f : α → List Byte} {n m : Nat} (h : ∀ a, (f a).length = n) {pre : List Byte}
    (hm : pre.length = m) {l : List α} {k : Nat} {a : α} (ha : l[k]? = some a) (more : List Byte) :
    ((pre ++ (l.flatMap f ++ more)).drop (m + n * k)).take n = f a := by
  rw [← List.drop_drop, List.drop_left' hm, take_flatMap h l k a ha]

/-! ### DEVICE-RESET -/

theorem deviceResetItem_first (h : Executing .deviceReset ops rest s) (hr : rest ≠ []) :
    deviceResetItem ops s = s.finishItem .refusedState [] := by
  unfold deviceResetItem
  rw [h.item]
  cases rest with
  | nil => exact absurd rfl hr
  | cons item rest => rfl

theorem deviceResetItem_last (h : Executing .deviceReset ops [] s) {f : MgmtFrame} {queue : List MgmtFrame}
    (hq : s.mgmt.queue = f :: queue) : deviceResetItem ops s =
      if f.addressed then s.awaitReset f { code := Request.code .deviceReset, operands := ops } else s.deviceReset := by
  unfold deviceResetItem State.frameInHand
  rw [h.item, hq]
  rfl

end Sys2Proof.Machine

namespace Sys2Proof.Proofs

open Sys2Proof.Machine Sys2Proof.Safety

/-- Settles O38: the report is its first bytes, the blocks of slots, routes and lanes, and the byte of the latches. -/
theorem statusReported : Obligations.StatusReported := by
  unfold Obligations.StatusReported
  intro s ops rest h
  have head : (beBytes 4 s.cond.present.toNat ++ beBytes 4 s.cond.mask.toNat ++
      [timebaseStateCode s.time.state, boolByte s.time.selectRefin]).length = 10 := by simp [beBytes_length]
  have slots := length_flatMap_const (fun i => slotReport_length (s.slot i)) allSlots
  have routes := length_flatMap_const (fun r => routeReport_length (s.route r)) allRoutes
  have lanes := length_flatMap_const (f := fun i => (s.lane i).report) (n := 3) (fun i => rfl) allLanes
  refine ⟨s.statusReport, exec_status h, ?_, ?_, fun i => ?_, fun r => ?_, fun i => ?_, ?_⟩
  all_goals rw [statusReport_parts]
  · simp only [List.length_append, head, slots, routes, lanes, List.length_singleton]
    rfl
  · rw [List.take_left' head]
    rfl
  · exact (drop_prefix (fun i => slotReport_length (s.slot i)) head
      (show allSlots[i.val]? = some i by revert i; decide) _).trans (slotReport_eq _)
  · rw [← List.append_assoc]
    exact (drop_prefix (fun r => routeReport_length (s.route r)) (by simp [slots]; rfl)
      (show allRoutes[r.val]? = some r by revert r; decide) _).trans (routeReport_eq _)
  · rw [← List.append_assoc, ← List.append_assoc]
    exact drop_prefix (f := fun i => (s.lane i).report) (n := 3) (fun _ => rfl)
      (by simp [slots, routes]; rfl) (show allLanes[i.val]? = some i by revert i; decide) _
  · rw [← List.append_assoc, ← List.append_assoc, ← List.append_assoc, List.drop_left' (by simp [slots, routes, lanes]; rfl),
      latchByte_eq]

/-- Settles O39: both requests act on the conditions as their operands spell them. -/
theorem conditionsClearedAndMasked : Obligations.ConditionsClearedAndMasked := by
  unfold Obligations.ConditionsClearedAndMasked
  refine ⟨fun s ops rest h => ?_, fun s ops rest h => ?_⟩
  · intro named
    rw [exec_conditionsClear h, clearNamed_eq, conditionOperand_eq h.length]
  · intro mask t
    rw [exec_conditionsMask h, conditionOperand_eq h.length, attn_iff, finishItem_cond]
    exact ⟨rfl, Iff.rfl⟩

/-- Settles O42, by the item's place in the list and whether the frame is addressed. -/
theorem deviceResetExecuted : Obligations.DeviceResetExecuted := by
  unfold Obligations.DeviceResetExecuted
  intro s ops rest f queue h hq
  rw [exec_deviceReset h]
  refine ⟨fun hr => by rw [deviceResetItem_first h hr], ?_, ?_⟩
  · rintro rfl addressed rep
    rw [deviceResetItem_last h hq, addressed]
    refine congrArg Host.Outcome.next ?_
    show s.awaitReset f _ = _
    unfold State.awaitReset State.offerReply
    rw [rep]
    rfl
  · rintro rfl addressed
    rw [deviceResetItem_last h hq, addressed]
    refine congrArg Host.Outcome.next ?_
    show s.deviceReset = _
    unfold State.deviceReset
    have words : (if s.tx.departing.isSome then [controlWord false 0xF0] else []) = if s.tx.departing = none then [] else [0x1F0] := by
      cases s.tx.departing <;> rfl
    rw [words]
    rfl

end Sys2Proof.Proofs
end

section
/-! Operand bytes, and O43 to O46: the requests on group slots. -/

namespace Sys2Proof.Machine

open Sys2Proof.Safety

variable {s : State} {ops : List Byte} {rest : List Item}

/-! ### Operand bytes -/

theorem take_drop_succ {bs : List Byte} {k : Nat} (h : k < bs.length) (n : Nat) :
    (bs.drop k).take (n + 1) = byteAt bs k :: (bs.drop (k + 1)).take n := by
  rw [List.drop_eq_getElem_cons h, List.take_succ_cons]
  simp [byteAt, h]

theorem fieldAt_one {bs : List Byte} {k : Nat} (h : k < bs.length) : fieldAt bs k 1 = (byteAt bs k).toNat := by
  simp [fieldAt, take_drop_succ h, beNat]

theorem fieldAt_two {bs : List Byte} {k : Nat} (h : k + 1 < bs.length) :
    fieldAt bs k 2 = (byteAt bs k).toNat * 256 + (byteAt bs (k + 1)).toNat := by
  simp [fieldAt, take_drop_succ (show k < bs.length by omega), take_drop_succ h, beNat]

theorem fieldAt_four {bs : List Byte} {k : Nat} (h : k + 3 < bs.length) : fieldAt bs k 4 =
    (byteAt bs k).toNat * 2 ^ 24 + (byteAt bs (k + 1)).toNat * 2 ^ 16 + (byteAt bs (k + 2)).toNat * 2 ^ 8
      + (byteAt bs (k + 3)).toNat := by
  simp only [fieldAt, take_drop_succ (show k < bs.length by omega), take_drop_succ (show k + 1 < bs.length by omega),
    take_drop_succ (show k + 2 < bs.length by omega), take_drop_succ (show k + 3 < bs.length by omega), List.take_zero, beNat,
    List.foldl_cons, List.foldl_nil, Nat.zero_mul, Nat.zero_add]
  ring

theorem clampNat_eq {lo hi : Nat} (h : lo ≤ hi) (x : Nat) : clampNat lo hi x = max lo (min hi x) := by
  unfold clampNat
  split_ifs <;> omega

theorem byte_of_toNat {b : Byte} {n : Nat} (h : b.toNat = n) : b = BitVec.ofNat 8 n := by
  rw [← h, BitVec.ofNat_toNat, BitVec.setWidth_eq]

theorem slotOf_none {b : Byte} (h : 3 < b.toNat) : slotOf b = none := by
  rw [slotOf, dif_neg (by omega)]

theorem slotOf_some {b : Byte} {i : SlotId} (h : b.toNat = i.val) : slotOf b = some i := by
  have lt : b.toNat < 4 := h ▸ i.isLt
  rw [slotOf, dif_pos lt]
  exact congrArg some (Fin.ext h)

theorem roleOf_none {b : Byte} (h : 1 < b.toNat) : roleOf b = none := by
  have h0 : b ≠ 0 := by rintro rfl; simp at h
  have h1 : b ≠ 1 := by rintro rfl; simp at h
  rw [roleOf, if_neg h0, if_neg h1]

theorem triggerOf_eq (b : Byte) : triggerOf b = [TriggerMode.off, .once, .stream, .tick][b.toNat]? := by
  by_cases h : b.toNat < 4
  · obtain h | h | h | h : b.toNat = 0 ∨ b.toNat = 1 ∨ b.toNat = 2 ∨ b.toNat = 3 := by omega
    all_goals
      rw [byte_of_toNat h]
      rfl
  · have h0 : b ≠ 0 := by rintro rfl; simp at h
    have h1 : b ≠ 1 := by rintro rfl; simp at h
    have h2 : b ≠ 2 := by rintro rfl; simp at h
    have h3 : b ≠ 3 := by rintro rfl; simp at h
    rw [List.getElem?_eq_none (by simp only [List.length_cons, List.length_nil]; omega), triggerOf, if_neg h0, if_neg h1, if_neg h2,
      if_neg h3]

/-! ### The checks of GROUP-SET (R45) -/

theorem exec_groupSet (h : Executing .groupSet ops rest s) (now : Time) :
    exec (.groupSet now) s = .next (groupSetItem ops (s.clockTo now)) :=
  congrArg Host.Outcome.next (actAt_runItem h now groupSetItem)

theorem groupSetHead_none (h : 3 < (byteAt ops 0).toNat ∨ byteAt ops 1 = 0 ∨ 1 < (byteAt ops 2).toNat ∨ 3 < (byteAt ops 4).toNat) :
    groupSetHead ops = none := by
  unfold groupSetHead
  rcases h with h | h | h | h
  · rw [slotOf_none h]
  · split
    · exact if_pos h
    · rfl
  · rw [roleOf_none h]
    split <;> simp_all
  · rw [triggerOf_eq, List.getElem?_eq_none (by simp; omega)]
    split <;> simp_all

theorem groupSetHead_some {i : SlotId} {role : Role} (hi : (byteAt ops 0).toNat = i.val) (tag : byteAt ops 1 ≠ 0)
    (hr : roleOf (byteAt ops 2) = some role) (trigger : (byteAt ops 4).toNat ≤ 3) :
    groupSetHead ops = some { slot := i, tag := byteAt ops 1, role := role } := by
  have mode : ∃ m, triggerOf (byteAt ops 4) = some m := by
    rw [triggerOf_eq]
    exact ⟨_, List.getElem?_eq_getElem (by simp; omega)⟩
  obtain ⟨m, mode⟩ := mode
  unfold groupSetHead
  rw [slotOf_some hi, hr, mode]
  exact if_neg tag

theorem roleOf_of_le {b : Byte} (h : b.toNat ≤ 1) : ∃ role, roleOf b = some role := by
  rcases byte_eq_zero_or_one h with rfl | rfl
  · exact ⟨.leader, rfl⟩
  · exact ⟨.follower, rfl⟩

/-- R45: a request that passes all checks. -/
theorem groupSetItem_passes {i : SlotId} {role : Role} (hi : (byteAt ops 0).toNat = i.val) (tag : byteAt ops 1 ≠ 0)
    (hr : roleOf (byteAt ops 2) = some role) (trigger : (byteAt ops 4).toNat ≤ 3)
    (others : ∀ j, j ≠ i → (s.slot j).tag ≠ byteAt ops 1) (own : (s.slot i).tag = 0 ∨ (s.slot i).tag = byteAt ops 1) :
    groupSetItem ops s = (s.applyGroupSet i (byteAt ops 1) role (groupSetConfig ops)).finishItem .done [] := by
  have free : s.tagElsewhere i (byteAt ops 1) ≠ true := fun h => by
    obtain ⟨j, hj, held⟩ := (tagElsewhere_iff i _).mp h
    exact others j hj held
  unfold groupSetItem
  rw [groupSetHead_some hi tag hr trigger]
  dsimp only
  rw [if_neg free, if_neg]
  rintro ⟨use, differs⟩
  rcases own with own | own
  · simp [GroupSlot.inUse, own] at use
  · exact differs own

/-! ### What a GROUP-SET does (R46 to R49, R53) -/

theorem groupSetConfig_stream (h : (byteAt ops 4).toNat ≤ 3) : (groupSetConfig ops).mode = .stream ↔ byteAt ops 4 = 2 := by
  show (triggerOf (byteAt ops 4)).getD .off = .stream ↔ _
  obtain h | h | h | h : (byteAt ops 4).toNat = 0 ∨ (byteAt ops 4).toNat = 1 ∨ (byteAt ops 4).toNat = 2 ∨ (byteAt ops 4).toNat = 3 := by
    omega
  all_goals
    rw [byte_of_toNat h]
    decide

theorem streaming_iff {g : GroupSlot} (role : g.role = some .follower) :
    g.streaming = true ↔ ∃ c, g.config = some c ∧ c.mode = .stream := by
  unfold GroupSlot.streaming
  rw [role]
  cases g.config <;> simp

/-- R53, R55: a due event of a follower slot just written, without a record. -/
theorem soundingDue_offer {i : SlotId} {c : SlotConfig} {g : GroupSlot} (role : g.role = some .follower) (hc : g.config = some c)
    (hr : g.record = none) : (s.setSlot i g).soundingDue i =
      { s.setSlot i { g with record := some (.queued g.seqCounter), seqCounter := g.seqCounter + 1 } with
        tx := { s.tx with snd := soundingsWith i s.pins.linkAddress c g s.tx.snd } } := by
  have slot : (s.setSlot i g).slot i = g := State.setSlot_slot_self s i g
  rw [soundingDue_unrecorded (by rw [slot, role]) (by rw [slot, hr]), makeSounding_eq (c := c) (by rw [slot, hc]), slot,
    setSlot_twice]
  rfl

theorem applyGroupSet_of {i : SlotId} {old : Option Role} {tag : Byte} {role : Role} {c : SlotConfig} : (s.slot i).role = old →
    s.applyGroupSet i tag role c = match old, role with
    | none, .leader => s.setSlot i (GroupSlot.newLeader tag c s.time.lmc)
    | none, .follower => (s.setSlot i (GroupSlot.newFollower tag c)).reschedule i false
    | some .leader, .leader => s.setSlot i ((s.slot i).rewrite c)
    | some .follower, .follower => (s.setSlot i ((s.slot i).rewrite c)).reschedule i (s.slot i).streaming
    | some .leader, .follower => ((s.setSlot i ((s.slot i).toFollower c)).turnRoutes i).reschedule i false
    | some .follower, .leader => (s.withdrawSounding i).setSlot i ((s.slot i).toLeader c s.time.lmc) := by
  rintro rfl
  rfl

theorem turnRoutes_setSlot (i : SlotId) (g : GroupSlot) :
    (s.setSlot i g).turnRoutes i = (s.turnRoutes i).setSlot i g := rfl

/-- R43, R49: a follower turned leader at the value `now`, its timeline going on from there. -/
theorem toLeader_eq (c : SlotConfig) (now : Time) (g : GroupSlot) : g.toLeader c now = { g.toLeader c now with
    map := some { al := now, trim := 0, ag := match g.map with | some m => m.convert now | none => now } } := by
  have anchored : (g.toLeader c now).map =
      some { al := now, trim := 0, ag := match g.map with | some m => m.convert now | none => now } := by
    show some (match g.map with | some m => m.reanchor now 0 0 | none => TimelineMap.identity now) = _
    cases g.map with
    | none => rfl
    | some m =>
      show some (TimelineMap.mk now (addTicks (m.convert now) 0) 0) = _
      rw [addTicks, show BitVec.ofInt 48 0 = 0#48 from rfl, BitVec.add_zero]
  exact congrArg (fun m => { g.toLeader c now with map := m }) anchored

theorem reschedule_idle {i : SlotId} {g : GroupSlot} (h : g.streaming = false) (was : Bool) :
    (s.setSlot i g).reschedule i was = s.setSlot i { g with streamDue := none } := by
  unfold State.reschedule State.modSlot
  rw [State.setSlot_slot_self, h, setSlot_twice]
  rfl

theorem reschedule_kept {i : SlotId} {g : GroupSlot} (h : g.streaming = true) {was : Bool} (hw : was = true ∨ g.record.isSome = true) :
    (s.setSlot i g).reschedule i was = s.setSlot i g := by
  unfold State.reschedule
  rw [State.setSlot_slot_self, if_pos h, if_pos hw]

theorem reschedule_sounds {i : SlotId} {c : SlotConfig} {g : GroupSlot} (role : g.role = some .follower) (hc : g.config = some c)
    (hm : c.mode = .stream) (hr : g.record = none) : (s.setSlot i g).reschedule i false =
      { s.setSlot i { g with record := some (.queued g.seqCounter), seqCounter := g.seqCounter + 1 } with
        tx := { s.tx with snd := soundingsWith i s.pins.linkAddress c g s.tx.snd } } := by
  unfold State.reschedule
  rw [State.setSlot_slot_self, if_pos ((streaming_iff role).mpr ⟨c, hc, hm⟩), if_neg (by simp [hr]), soundingDue_offer role hc hr]

/-! ### GROUP-CLEAR, GROUP-SOUND and GROUP-MEASURE -/

theorem exec_groupClear (h : Executing .groupClear ops rest s) : exec .groupClear s = .next (groupClearItem ops s) :=
  congrArg Host.Outcome.next (act_runItem h groupClearItem)

theorem exec_groupSound (h : Executing .groupSound ops rest s) : exec .groupSound s = .next (groupSoundItem ops s) :=
  congrArg Host.Outcome.next (act_runItem h groupSoundItem)

theorem exec_groupMeasure (h : Executing .groupMeasure ops rest s) : exec .groupMeasure s = .next (groupMeasureItem ops s) :=
  congrArg Host.Outcome.next (act_runItem h groupMeasureItem)

theorem soundsOnce_iff {g : GroupSlot} : g.soundsOnce = true ↔ ∃ c, g.role = some .follower ∧ g.config = some c ∧ c.mode = .once := by
  unfold GroupSlot.soundsOnce
  rcases g.role with _ | ⟨_ | _⟩ <;> cases g.config <;> simp

/-- R69: the report of a measurement. -/
theorem measureReport_eq (g : GroupSlot) : g.measureReport =
    match g.lastResult with
    | none => [0, if g.ready then 1 else 0] ++ List.replicate 14 0
    | some r => [1, if g.ready then 1 else 0] ++ beBytesInt 4 r.e ++ beBytes 6 r.p ++ beBytes 2 r.n ++ beBytes 2 r.rejected := by
  have absent : beBytes 14 0 = List.replicate 14 0 := by decide
  unfold GroupSlot.measureReport
  rw [absent]
  cases g.lastResult <;> rfl

end Sys2Proof.Machine

namespace Sys2Proof.Proofs

open Sys2Proof.Machine Sys2Proof.Safety

/-- Settles O43: the fields byte by byte, then the checks in their order. -/
theorem groupSetChecked : Obligations.GroupSetChecked := by
  unfold Obligations.GroupSetChecked
  refine ⟨fun ops => ⟨groupSetConfig_inRange ops, fun len => ?_⟩, fun s now ops rest h => ?_⟩
  · intro b
    unfold groupSetConfig
    rw [triggerOf_eq, fieldAt_four (by omega), fieldAt_two (by omega), fieldAt_two (by omega)]
    simp only [fieldAt_one (show 3 < ops.length by omega), fieldAt_one (show 5 < ops.length by omega),
      fieldAt_one (show 10 < ops.length by omega), fieldAt_one (show 13 < ops.length by omega),
      fieldAt_one (show 16 < ops.length by omega), fieldAt_one (show 17 < ops.length by omega),
      fieldAt_one (show 18 < ops.length by omega), fieldAt_one (show 19 < ops.length by omega),
      clampNat_eq (show 0 ≤ 14 by omega), clampNat_eq (show 16 ≤ 27 by omega), clampNat_eq (show 2 ^ 14 ≤ 2 ^ 24 by omega),
      clampNat_eq (show 1 ≤ 8 by omega), clampNat_eq (show 0 ≤ 4 by omega), clampNat_eq (show 1 ≤ 15 by omega),
      clampNat_eq (show 16 ≤ 255 by omega), Nat.zero_max, List.getD_eq_getElem?_getD]
    rfl
  · intro badIndex
    rw [exec_groupSet h]
    refine ⟨fun bad => ?_, fun i good hi => ⟨?_, fun others own differs => ?_⟩⟩
    · rw [groupSetItem, groupSetHead_none bad]
    all_goals
      simp only [badIndex, not_or, not_lt] at good
      obtain ⟨-, tag, role, trigger⟩ := good
      obtain ⟨role, hr⟩ := roleOf_of_le role
    · rintro ⟨j, hj, held⟩
      have taken : (s.clockTo now).tagElsewhere i (byteAt ops 1) = true :=
        (tagElsewhere_iff i _).mpr ⟨j, hj, by rw [State.clockTo_slot, held]⟩
      rw [groupSetItem, groupSetHead_some hi tag hr trigger]
      exact congrArg Host.Outcome.next (if_pos taken)
    · have free : (s.clockTo now).tagElsewhere i (byteAt ops 1) ≠ true := fun ht => by
        obtain ⟨j, hj, held⟩ := (tagElsewhere_iff i _).mp ht
        exact others j hj (by rwa [State.clockTo_slot] at held)
      rw [groupSetItem, groupSetHead_some hi tag hr trigger]
      dsimp only
      rw [if_neg free, if_pos]
      rw [State.clockTo_slot]
      exact ⟨bne_iff_ne.mpr own, differs⟩

/-- Settles O44: the slot is written fresh, and a STREAM follower sounds. -/
theorem groupSetCreates : Obligations.GroupSetCreates := by
  unfold Obligations.GroupSetCreates
  intro s now ops rest i h hi tag role trigger others free unused fresh
  have passes : ∀ role, roleOf (byteAt ops 2) = some role → exec (.groupSet now) s =
      .next (((s.clockTo now).applyGroupSet i (byteAt ops 1) role (groupSetConfig ops)).finishItem .done []) := fun role hr => by
    rw [exec_groupSet h, groupSetItem_passes hi tag hr trigger (by simpa using others) (by simp [free])]
  have stream := groupSetConfig_stream trigger
  have blank : ∀ (j : SlotId), State.reset.slot j = GroupSlot.unused := by decide
  simp only [fresh, blank]
  refine ⟨fun hr => ?_, fun hr hm => ?_, fun hr hm offered => ?_⟩
  · rw [passes .leader (by rw [hr]; rfl), applyGroupSet_of (by simpa using unused), State.clockTo_lmc]
    rfl
  · have idle : (GroupSlot.newFollower (byteAt ops 1) (groupSetConfig ops)).streaming = false := by
      rw [← Bool.not_eq_true, streaming_iff rfl]
      rintro ⟨c, hc, mode⟩
      obtain rfl := Option.some.inj hc
      exact hm (stream.mp mode)
    rw [passes .follower (by rw [hr]; rfl), applyGroupSet_of (by simpa using unused)]
    dsimp only
    rw [reschedule_idle idle]
    rfl
  · rw [passes .follower (by rw [hr]; rfl), applyGroupSet_of (by simpa using unused)]
    dsimp only
    rw [reschedule_sounds (g := GroupSlot.newFollower (byteAt ops 1) (groupSetConfig ops)) rfl rfl (stream.mpr hm) rfl,
      State.clockTo_tx, State.clockTo_pins, soundingsWith, if_neg (by simpa using offered)]
    rfl

/-- Settles O45, by the roles before and after. -/
theorem groupSetRewrites : Obligations.GroupSetRewrites := by
  unfold Obligations.GroupSetRewrites
  intro s now ops rest i h hi tag role trigger others own g u streamed due offered kept changed turned follower
  have passes : ∀ role, roleOf (byteAt ops 2) = some role → exec (.groupSet now) s =
      .next (((s.clockTo now).applyGroupSet i (byteAt ops 1) role (groupSetConfig ops)).finishItem .done []) := fun role hr => by
    rw [exec_groupSet h, groupSetItem_passes hi tag hr trigger (by simpa using others) (by simp [own])]
  have leader : byteAt ops 2 = 0 → roleOf (byteAt ops 2) = some .leader := fun hr => by rw [hr]; rfl
  have follow : byteAt ops 2 = 1 → roleOf (byteAt ops 2) = some .follower := fun hr => by rw [hr]; rfl
  have role' : ∀ {r : Role}, g.role = some r → ((s.clockTo now).slot i).role = some r := fun hg => by rwa [State.clockTo_slot]
  have stream := groupSetConfig_stream trigger
  have idle : ∀ x : GroupSlot, x.role = some .follower → x.config = some (groupSetConfig ops) → byteAt ops 4 ≠ 2 →
      x.streaming = false := fun x hx hc hm => by
    rw [← Bool.not_eq_true, streaming_iff hx]
    rintro ⟨c, hk, mode⟩
    obtain rfl := Option.some.inj (hc.symm.trans hk)
    exact hm (stream.mp mode)
  have offers : ∀ x : GroupSlot, offered x =
      { u.tx with snd := soundingsWith i u.pins.linkAddress (groupSetConfig ops) x u.tx.snd } := fun x => by
    have tx : u.tx = s.tx := State.clockTo_tx s now
    have pins : u.pins = s.pins := State.clockTo_pins s now
    rw [tx, pins]
    unfold soundingsWith
    by_cases hx : ∃ e ∈ s.tx.snd, e.slot = i
    · rw [if_pos (by simpa using hx)]
      exact if_pos hx
    · rw [if_neg (by simpa using hx)]
      exact if_neg hx
  have turns : turned = (u.turnRoutes i).routes := by
    have routes : u.routes = s.routes := State.clockTo_routes s now
    exact congrArg (Vector.map (Route.turnToSink i)) routes.symm
  refine ⟨fun hr hg => ?_, fun hr hg => ⟨fun hm => ?_, fun hm keeps => ?_, fun hm never bare => ?_⟩,
    fun hr hg => ⟨fun hm => ?_, fun hm => ?_⟩, fun hr hg => ?_⟩
  · rw [passes _ (leader hr), applyGroupSet_of (role' hg), State.clockTo_slot]
    rfl
  · rw [passes _ (follow hr), applyGroupSet_of (role' hg), State.clockTo_slot]
    dsimp only
    rw [reschedule_idle (idle ((s.slot i).rewrite (groupSetConfig ops)) hg rfl hm)]
    rfl
  · rw [passes _ (follow hr), applyGroupSet_of (role' hg), State.clockTo_slot]
    dsimp only
    rw [reschedule_kept (g := (s.slot i).rewrite (groupSetConfig ops)) ((streaming_iff (g := (s.slot i).rewrite (groupSetConfig ops)) hg).mpr ⟨_, rfl, stream.mpr hm⟩)]
    · rfl
    · rcases keeps with was | held
      · exact .inl ((streaming_iff hg).mpr was)
      · exact .inr (Option.isSome_iff_ne_none.mpr held)
  · have calm : g.streaming = false := by
      rw [← Bool.not_eq_true, streaming_iff hg]
      exact never
    rw [passes _ (follow hr), applyGroupSet_of (role' hg), State.clockTo_slot]
    dsimp only
    rw [show (s.slot i).streaming = false from calm,
      reschedule_sounds (g := (s.slot i).rewrite (groupSetConfig ops)) hg rfl (stream.mpr hm) bare, offers]
    rfl
  · rw [passes _ (follow hr), applyGroupSet_of (role' hg), State.clockTo_slot]
    dsimp only
    rw [turnRoutes_setSlot, reschedule_idle (idle _ rfl rfl hm), turns]
    rfl
  · rw [passes _ (follow hr), applyGroupSet_of (role' hg), State.clockTo_slot]
    dsimp only
    rw [turnRoutes_setSlot, reschedule_sounds (g := (s.slot i).toFollower (groupSetConfig ops)) rfl rfl (stream.mpr hm) rfl,
      offers, turns]
    rfl
  · rw [passes _ (leader hr), applyGroupSet_of (role' hg), State.clockTo_slot, State.clockTo_lmc]
    dsimp only
    rw [toLeader_eq]
    unfold State.withdrawSounding
    simp only [State.clockTo_tx]
    rfl

/-- Settles O46: each request by its slot number, then its check, then its act. -/
theorem groupSlotRequests : Obligations.GroupSlotRequests := by
  unfold Obligations.GroupSlotRequests
  refine ⟨fun s ops rest h => ?_, fun s ops rest h => ?_, fun s ops rest h => ?_⟩
  · rw [exec_groupClear h]
    refine ⟨fun bad => by rw [groupClearItem, slotOf_none bad], fun i hi => ?_⟩
    rw [groupClearItem, slotOf_some hi]
    refine ⟨fun routed => congrArg Host.Outcome.next (if_pos ((slotRouted_iff i).mpr routed)), fun unrouted => ?_⟩
    have free : s.slotRouted i ≠ true := fun hr => by
      obtain ⟨r, c, hc, hs, hi⟩ := (slotRouted_iff i).mp hr
      exact unrouted r c hc hs hi
    dsimp only
    rw [if_neg free]
    refine ⟨fun unused => ?_, fun used => ?_⟩
    · rw [State.clearSlot, if_neg (by simp [GroupSlot.inUse, unused])]
    · have blank : ∀ j : SlotId, State.reset.slot j = GroupSlot.unused := by decide
      rw [State.clearSlot, if_pos (show (s.slot i).inUse = true from bne_iff_ne.mpr used), blank]
      rfl
  · rw [exec_groupSound h]
    refine ⟨fun bad => by rw [groupSoundItem, slotOf_none bad], fun i hi => ?_⟩
    rw [groupSoundItem, slotOf_some hi]
    refine ⟨fun other => ?_, fun c role hc mode => ?_⟩
    · have silent : (s.slot i).soundsOnce ≠ true := fun hs => by
        obtain ⟨c, role, hc, mode⟩ := soundsOnce_iff.mp hs
        exact other.elim (fun hn => hn role) fun hn => hn c hc mode
      exact congrArg Host.Outcome.next (if_neg silent)
    · have sounds : (s.slot i).soundsOnce = true := soundsOnce_iff.mpr ⟨c, role, hc, mode⟩
      dsimp only
      rw [if_pos sounds]
      refine ⟨fun seq queued => by rw [soundingDue_queued queued], fun unqueued => ?_⟩
      have offered : soundingsWith i s.pins.linkAddress c (s.slot i) s.tx.snd =
          if ∃ e ∈ s.tx.snd, e.slot = i then s.tx.snd else s.tx.snd ++ [soundingOf i s.pins.linkAddress c (s.slot i)] := by
        simp only [soundingsWith, List.any_eq_true, beq_iff_eq]
      rw [soundingDue_new role hc unqueued, offered]
      rfl
  · rw [exec_groupMeasure h]
    refine ⟨fun bad => by rw [groupMeasureItem, slotOf_none bad], fun i hi => ?_⟩
    rw [groupMeasureItem, slotOf_some hi]
    exact congrArg (fun d => Host.Outcome.next ((s.setSlot i { s.slot i with ready := false }).finishItem .done d))
      (measureReport_eq (s.slot i))

end Sys2Proof.Proofs
end

section
/-! O49 and O50: ROUTE-COUNTS, PAGE-RUNS and SLOT-PEEK. -/

namespace Sys2Proof.Machine

open Sys2Proof.Safety

variable {s : State} {ops : List Byte} {rest : List Item}

/-! ### The commands on an item that passes -/

theorem exec_routeCounts (h : Executing .routeCounts ops rest s) : exec .routeCounts s = .next (routeCountsItem ops s) :=
  congrArg Host.Outcome.next (act_runItem h routeCountsItem)

theorem exec_pageRuns (h : Executing .pageRuns ops rest s) : exec .pageRuns s = .next (pageRunsItem ops s) :=
  congrArg Host.Outcome.next (act_runItem h pageRunsItem)

theorem exec_slotPeek (h : Executing .slotPeek ops rest s) : exec .slotPeek s = .next (slotPeekItem ops s) :=
  congrArg Host.Outcome.next (act_runItem h slotPeekItem)

theorem exec_slotPeekGrant (hr : s.pins.inReset = false) (h : s.quietUnplaced = true) : exec .slotPeekGrant s = .next s.grantPeek :=
  congrArg Host.Outcome.next (State.actUnplaced_of_quiet s State.grantPeek hr h)

theorem routeOf_none {b : Byte} (h : 7 < b.toNat) : routeOf b = none := by
  rw [routeOf, dif_neg (by omega)]

theorem routeOf_some {b : Byte} {r : RouteId} (h : b.toNat = r.val) : routeOf b = some r := by
  have lt : b.toNat < 8 := h ▸ r.isLt
  rw [routeOf, dif_pos lt]
  exact congrArg some (Fin.ext h)

theorem beBytes_one (v : Nat) : beBytes 1 v = [BitVec.ofNat 8 v] := by
  simp [beBytes]

/-! ### The runs of the page map (R126) -/

/-- The runs of a stretch: maximal, in page order, and together its owners page by page. -/
structure RunsOf (l : List (Option RouteId)) (first : Nat) (runs : List (Nat × Nat × Option RouteId)) : Prop where
  owners : runs.flatMap (fun x => List.replicate x.2.1 x.2.2) = l
  pages : (runs.map (·.2.1)).sum = l.length
  longer : ∀ x ∈ runs, 0 < x.2.1
  begins : l ≠ [] → runs.head?.map (·.1) = some first
  chain : List.IsChain (fun x y => y.1 = x.1 + x.2.1 ∧ x.2.2 ≠ y.2.2) runs

theorem pageRunsOf_runs : ∀ (l : List (Option RouteId)) (p : Nat), RunsOf l p (pageRunsOf l p)
  | [], p => ⟨rfl, rfl, fun _ h => absurd h List.not_mem_nil, fun h => absurd rfl h, .nil⟩
  | o :: l, p => by
    obtain ⟨owners, pages, longer, begins, chain⟩ := pageRunsOf_runs l (p + 1)
    unfold pageRunsOf
    rcases hruns : pageRunsOf l (p + 1) with _ | ⟨⟨first, len, o'⟩, more⟩
    · rw [hruns] at owners
      obtain rfl : l = [] := owners.symm
      exact ⟨rfl, rfl, by simp, fun _ => rfl, .singleton _⟩
    · rw [hruns] at owners pages longer begins chain
      have pos : 0 < len := longer (first, len, o') (by simp)
      have next : first = p + 1 := by
        refine Option.some.inj (begins ?_)
        rintro rfl
        simp at pages
        omega
      dsimp only
      split
      next same =>
        subst same
        refine ⟨?_, ?_, ?_, fun _ => rfl, ?_⟩
        · rw [← owners]
          rfl
        · simp only [List.map_cons, List.sum_cons, List.length_cons] at pages ⊢
          omega
        · intro x hx
          rcases List.mem_cons.mp hx with rfl | hx
          · exact Nat.succ_pos len
          · exact longer x (List.mem_cons_of_mem _ hx)
        · cases more with
          | nil => exact .singleton _
          | cons y more =>
            rw [List.isChain_cons_cons] at chain ⊢
            refine ⟨⟨?_, chain.1.2⟩, chain.2⟩
            have := chain.1.1
            dsimp only at this ⊢
            omega
      next other =>
        refine ⟨?_, ?_, ?_, fun _ => rfl, ?_⟩
        · rw [List.flatMap_cons, owners]
          rfl
        · rw [List.map_cons, List.sum_cons, pages, List.length_cons, Nat.add_comm]
        · intro x hx
          rcases List.mem_cons.mp hx with rfl | hx
          · exact Nat.one_pos
          · exact longer x hx
        · rw [List.isChain_cons_cons]
          exact ⟨⟨next, fun h => other h.symm⟩, chain⟩

theorem pageRange_eq (first count : Nat) : pageRange first count =
    (min 1023 first, min (max 1 (min 64 count)) (1024 - min 1023 first)) := by
  unfold pageRange
  dsimp only
  rw [clampNat_eq (by decide), clampNat_eq (by decide), Nat.zero_max]
  rfl

/-! ### SLOT-PEEK (R125) -/

theorem peekRange_eq {depth : Nat} (first count : Nat) : peekRange depth first count =
    (min (depth - 1) first, min (max 1 (min 16 count)) (depth - min (depth - 1) first)) := by
  unfold peekRange
  dsimp only
  rw [clampNat_eq (Nat.zero_le _), clampNat_eq (by decide), Nat.zero_max]

/-- R122: the memory is free and neither a lane nor the placement waits. -/
theorem peekMayRun_iff : s.peekMayRun = true ↔ s.store.burst = none ∧ (∀ i : LaneId, s.store.reads[i] = []) ∧
    ¬ ∃ p, s.store.placement = some p ∧ p.abandoned = false ∧ p.written < (p.frame.n + 31) / 32 := by
  have readers : (firstReader s.store.reads allLanes).isNone = true ↔ ∀ i : LaneId, s.store.reads[i] = [] := by
    rw [Option.isNone_iff_eq_none, firstReader_none]
    exact ⟨fun h i => h i (mem_allLanes i), fun h i _ => h i⟩
  unfold State.peekMayRun
  rw [Bool.and_eq_true, Bool.and_eq_true, readers, Option.isNone_iff_eq_none, and_assoc]
  refine and_congr Iff.rfl (and_congr Iff.rfl ?_)
  cases s.store.placement with
  | none => simp
  | some p =>
    have writing : (!p.waiting) = true ↔ ¬ (p.abandoned = false ∧ p.written < (p.frame.n + 31) / 32) := by
      rw [Bool.not_eq_true', Placement.waiting, Bool.and_eq_false_iff, Bool.not_eq_false', decide_eq_false_iff_not, not_and_or,
        Bool.not_eq_false]
      exact Iff.rfl
    simpa using writing

theorem grantPeek_of {r : RouteId} {first count : Nat} {c : RouteConfig} (hp : s.mgmt.phase = .storeWait r first count)
    (hc : (s.route r).config = some c) : s.grantPeek = if s.peekMayRun then
      State.finishItem .done ((s.route r).peekReport c first count) { s with store := { s.store with burst := some .peek } } else s := by
  unfold State.grantPeek
  rw [hp]
  dsimp only
  rw [hc]

theorem peekReport_eq (t : Route) (c : RouteConfig) (first count : Nat) : t.peekReport c first count =
    [routeStateCode t.state] ++ beBytes 1 c.depth ++ beBytes 1 c.slotPages ++ beBytes 2 c.firstPage
      ++ (match t.release with | some q => [1] ++ beBytes 2 q.toNat | none => [0, 0, 0]) ++ beBytes 1 count
      ++ (List.range count).flatMap (fun k =>
        beBytes 1 (first + k) ++
          (match t.dir.getD (first + k) .invalid with
            | .invalid => List.replicate 14 0
            | .inPlacement q => [1] ++ beBytes 2 q.toNat ++ List.replicate 11 0
            | .valid f => [2] ++ beBytes 2 f.seq.toNat ++ beBytes 6 f.pt.toNat ++ beBytes 2 f.n
                ++ [if f.restart then 1 else 0] ++ beBytes 2 (c.firstPage + (first + k) * c.slotPages))) := by
  have entry : ∀ k, peekEntry c (first + k) (t.dir.getD (first + k) .invalid) = beBytes 1 (first + k) ++
      (match t.dir.getD (first + k) .invalid with
        | .invalid => List.replicate 14 0
        | .inPlacement q => [1] ++ beBytes 2 q.toNat ++ List.replicate 11 0
        | .valid f => [2] ++ beBytes 2 f.seq.toNat ++ beBytes 6 f.pt.toNat ++ beBytes 2 f.n
            ++ [if f.restart then 1 else 0] ++ beBytes 2 (c.firstPage + (first + k) * c.slotPages)) := fun k => by
    unfold peekEntry
    rw [beBytes_one]
    cases t.dir.getD (first + k) .invalid with
    | invalid => rfl
    | inPlacement q =>
      have pad : beBytes 11 0 = List.replicate 11 0 := by decide
      dsimp only
      rw [pad]
    | valid f => rfl
  unfold Route.peekReport
  simp only [entry, beBytes_one]
  rfl

end Sys2Proof.Machine

namespace Sys2Proof.Proofs

open Sys2Proof.Machine Sys2Proof.Safety

/-- Settles O49: the counters are reported before they are cleared; the runs are those of the stretch. -/
theorem countsAndPagesRead : Obligations.CountsAndPagesRead := by
  unfold Obligations.CountsAndPagesRead
  refine ⟨fun s ops rest h => ?_, fun s ops rest h len => ?_⟩
  · rw [exec_routeCounts h]
    refine ⟨fun bad => by rw [routeCountsItem, routeOf_none bad], fun r hr => ?_⟩
    intro k report
    have counters : (s.route r).counters.report = report := by
      simp [RouteCounters.report, report, k, List.append_assoc]
    rw [routeCountsItem, routeOf_some hr]
    dsimp only
    rw [counters]
    exact ⟨fun kept => by rw [if_pos kept], fun clear => by rw [if_neg clear]; rfl⟩
  · intro first count
    have stretch : pageRange (fieldAt ops 0 2) (fieldAt ops 2 1) = (first, count) := by
      have width : ops.length = 3 := h.length
      rw [pageRange_eq, fieldAt_one (by omega)]
      rfl
    have runs := pageRunsOf_runs ((s.store.pages.drop first).take count) first
    have bound : first ≤ 1023 := Nat.min_le_left ..
    have some_pages : 0 < count := by omega
    have length : ((s.store.pages.drop first).take count).length = count := by
      rw [List.length_take, List.length_drop, len]
      omega
    refine ⟨_, ?_, runs.owners, runs.pages.trans length, runs.longer, runs.begins fun h => ?_, runs.chain⟩
    · rw [exec_pageRuns h, pageRunsItem, stretch, beBytes_one]
      rfl
    · rw [h] at length
      exact absurd length.symm (by simp; omega)

/-- Settles O50: the request by its route's state, the grant by what waits for the memory. -/
theorem slotPeeked : Obligations.SlotPeeked := by
  unfold Obligations.SlotPeeked
  refine ⟨fun s ops rest h => ?_, fun s r first count c hr quiet hp hc => ?_⟩
  · rw [exec_slotPeek h]
    refine ⟨fun bad => by rw [slotPeekItem, routeOf_none bad], fun r hr => ?_⟩
    rw [slotPeekItem, routeOf_some hr]
    refine ⟨fun free => ?_, fun c held hc deep => ?_⟩
    · dsimp only
      rw [free]
      rfl
    · intro first count
      have width : ops.length = 3 := h.length
      have range : peekRange c.depth (fieldAt ops 1 1) (fieldAt ops 2 1) = (first, count) := by
        rw [peekRange_eq, fieldAt_one (by omega), fieldAt_one (by omega)]
      have peeking : ∀ state : RouteState, state ≠ .free → ∀ config : Option RouteConfig, config = some c →
          (match state, config with
          | .free, _ | _, none => s.finishItem .done peekFreeReport
          | _, some c =>
            let range := peekRange c.depth (fieldAt ops 1 1) (fieldAt ops 2 1)
            { s with mgmt := { s.mgmt with phase := .storeWait r range.1 range.2 } }) =
            { s with mgmt := { s.mgmt with phase := .storeWait r first count } } := by
        rintro state hs config rfl
        cases state with
        | free => exact absurd rfl hs
        | armed | live | draining =>
          dsimp only
          rw [range]
      exact congrArg Host.Outcome.next (peeking _ held _ hc)
  · intro writing
    rw [exec_slotPeekGrant hr quiet, grantPeek_of hp hc]
    refine ⟨fun waits => ?_, fun free idle still => ?_⟩
    · rw [if_neg]
      rw [peekMayRun_iff]
      rintro ⟨free, idle, still⟩
      rcases waits with busy | ⟨i, hi⟩ | hw
      · simp [free] at busy
      · exact hi (idle i)
      · exact still hw
    · rw [if_pos (peekMayRun_iff.mpr ⟨free, idle, still⟩)]
      exact congrArg (fun d => Host.Outcome.next (State.finishItem .done d { s with store := { s.store with burst := some .peek } }))
        (peekReport_eq (s.route r) c first count)

end Sys2Proof.Proofs
end

section
/-! O51 and O52: LANE-BIND, LANE-GAIN and the lane wait. -/

namespace Sys2Proof.Machine

open Sys2Proof.Safety

variable {s : State} {ops : List Byte} {rest : List Item}

/-! ### The operands of LANE-BIND (R189) -/

theorem planOf_eq (b : Byte) : planOf b = [Plan.stereo, .left, .right, .mix][b.toNat]? := by
  by_cases h : b.toNat < 4
  · obtain h | h | h | h : b.toNat = 0 ∨ b.toNat = 1 ∨ b.toNat = 2 ∨ b.toNat = 3 := by omega
    all_goals
      rw [byte_of_toNat h]
      rfl
  · have h0 : b ≠ 0 := by rintro rfl; simp at h
    have h1 : b ≠ 1 := by rintro rfl; simp at h
    have h2 : b ≠ 2 := by rintro rfl; simp at h
    have h3 : b ≠ 3 := by rintro rfl; simp at h
    rw [List.getElem?_eq_none (by simp only [List.length_cons, List.length_nil]; omega), planOf, if_neg h0, if_neg h1, if_neg h2,
      if_neg h3]

theorem ampOf_eq (b : Byte) : ampOf b = [AmpMode.off, .on, .auto][b.toNat]? := by
  by_cases h : b.toNat < 3
  · obtain h | h | h : b.toNat = 0 ∨ b.toNat = 1 ∨ b.toNat = 2 := by omega
    all_goals
      rw [byte_of_toNat h]
      rfl
  · have h0 : b ≠ 0 := by rintro rfl; simp at h
    have h1 : b ≠ 1 := by rintro rfl; simp at h
    have h2 : b ≠ 2 := by rintro rfl; simp at h
    rw [List.getElem?_eq_none (by simp only [List.length_cons, List.length_nil]; omega), ampOf, if_neg h0, if_neg h1, if_neg h2]

theorem planOf_isNone (b : Byte) : (planOf b).isNone = true ↔ 3 < b.toNat := by
  rw [planOf_eq, Option.isNone_iff_eq_none, List.getElem?_eq_none_iff]
  exact Iff.rfl

theorem ampOf_isNone (b : Byte) : (ampOf b).isNone = true ↔ 2 < b.toNat := by
  rw [ampOf_eq, Option.isNone_iff_eq_none, List.getElem?_eq_none_iff]
  exact Iff.rfl

/-- R189: the settings that a LANE-BIND carries. -/
def carriedSettings (ops : List Byte) (r : RouteId) : Settings :=
  { route := some r
    plan := if (byteAt ops 2).getLsbD 0 then planOf (byteAt ops 3) else none
    gain := if (byteAt ops 2).getLsbD 1 then some (fieldAt ops 4 2) else none
    delay := if (byteAt ops 2).getLsbD 2 then some (fieldAt ops 6 2) else none
    amp := if (byteAt ops 2).getLsbD 3 then ampOf (byteAt ops 8) else none }

/-- R189: a plan or an amp mode carried is none of its enumeration. -/
def badCarried (ops : List Byte) : Prop :=
  ((byteAt ops 2).getLsbD 0 = true ∧ 3 < (byteAt ops 3).toNat) ∨ ((byteAt ops 2).getLsbD 3 = true ∧ 2 < (byteAt ops 8).toNat)

theorem laneBindOperands_of {i : LaneId} {r : RouteId} (hi : (byteAt ops 0).toNat = i.val) (hr : (byteAt ops 1).toNat = r.val) :
    (badCarried ops → laneBindOperands ops = none) ∧
      (¬ badCarried ops → laneBindOperands ops = some (i, r, carriedSettings ops r)) := by
  have bad : (((byteAt ops 2).getLsbD 0 && (planOf (byteAt ops 3)).isNone)
      || ((byteAt ops 2).getLsbD 3 && (ampOf (byteAt ops 8)).isNone)) = true ↔ badCarried ops := by
    rw [Bool.or_eq_true, Bool.and_eq_true, Bool.and_eq_true, planOf_isNone, ampOf_isNone]
    exact Iff.rfl
  unfold laneBindOperands
  rw [laneOf_eq_some hi, routeOf_some hr]
  exact ⟨fun h => if_pos (bad.mpr h), fun h => if_neg fun hb => h (bad.mp hb)⟩

theorem laneBindOperands_badIndex (h : 3 < (byteAt ops 0).toNat ∨ 7 < (byteAt ops 1).toNat) : laneBindOperands ops = none := by
  unfold laneBindOperands
  dsimp only
  rcases h with h | h
  · rw [laneOf_eq_none h]
  · rw [routeOf_none h]
    cases laneOf (byteAt ops 0) <;> rfl

/-- R189: the index checks of LANE-BIND. -/
theorem laneBindOperands_cases (ops : List Byte) :
    ((3 < (byteAt ops 0).toNat ∨ 7 < (byteAt ops 1).toNat ∨ badCarried ops) ∧ laneBindOperands ops = none) ∨
      ∃ (i : LaneId) (r : RouteId), (byteAt ops 0).toNat = i.val ∧ (byteAt ops 1).toNat = r.val ∧ ¬ badCarried ops ∧
        laneBindOperands ops = some (i, r, carriedSettings ops r) := by
  by_cases h0 : 3 < (byteAt ops 0).toNat
  · exact .inl ⟨.inl h0, laneBindOperands_badIndex (.inl h0)⟩
  by_cases h1 : 7 < (byteAt ops 1).toNat
  · exact .inl ⟨.inr (.inl h1), laneBindOperands_badIndex (.inr h1)⟩
  obtain ⟨refused, taken⟩ := laneBindOperands_of (ops := ops) (i := ⟨(byteAt ops 0).toNat, by omega⟩)
    (r := ⟨(byteAt ops 1).toNat, by omega⟩) rfl rfl
  by_cases hb : badCarried ops
  · exact .inl ⟨.inr (.inr hb), refused hb⟩
  · exact .inr ⟨_, _, rfl, rfl, hb, taken hb⟩

/-! ### What a binding does (R161) -/

/-- What the lane's state decides of a binding. -/
theorem applyBinding_of {i : LaneId} {st : LaneState} {v : Settings} : (s.lane i).state = st → s.applyBinding i v =
    match st with
    | .stop | .wait =>
      s.modLane i (fun l => match v.route with
        | some r => (l.applySettings v).bindTo r
        | none => l.applySettings v)
    | .prime =>
      match v.route with
      | some r =>
        if (s.lane i).route = some r then s.modLane i (Lane.applySettings v)
        else ((s.modLane i (Lane.applySettings v)).primeToWait i).modLane i (Lane.bindTo r)
      | none => s.modLane i (Lane.applySettings v)
    | .play | .rampdown => s.modLane i (fun l => { l with staged := some v }) := by
  rintro rfl
  rfl

theorem applyBinding_made {i : LaneId} {r : RouteId} {v : Settings} (hv : v.route = some r) :
    BindingMade s.time.lmc i r v s (s.applyBinding i v) := by
  refine ⟨fun hs => ?_, fun hs hr => ?_, fun hs hr => ?_, fun hs => ?_⟩
  · have bound : s.applyBinding i v = s.setLane i (((s.lane i).applySettings v).bindTo r) := by
      rcases hs with hs | hs
      all_goals
        rw [applyBinding_of hs, hv]
        rfl
    rw [bound, applySettings_eq]
    rfl
  · rw [applyBinding_of hs, hv]
    dsimp only
    rw [if_pos hr, State.modLane, applySettings_eq]
  · have written : s.modLane i (Lane.applySettings v) = s.setLane i (withSettings v (s.lane i)) :=
      congrArg (s.setLane i) (applySettings_eq v _)
    have made : s.applyBinding i v = ((s.setLane i (withSettings v (s.lane i))).primeToWait i).modLane i (Lane.bindTo r) := by
      rw [applyBinding_of hs, hv]
      dsimp only
      rw [if_neg hr, written]
    have move := primeToWait_move (s := s.setLane i (withSettings v (s.lane i))) i
    rw [State.setLane_lane_self] at move
    have wait := move.lane
    rw [made]
    refine ⟨?_, fun j hj => ?_, ⟨fun q hq => ?_, fun q j hj hp hroute _ => ?_, fun q => ?_⟩, ?_⟩
    · rw [State.modLane_lane_self, wait]
      rfl
    · rw [State.modLane_lane_ne _ _ _ _ hj, move.lane_ne hj, State.setLane_lane_ne _ _ _ _ hj]
    · exact move.route_other q (by rw [State.setLane_lane_self]; exact hq i rfl hs)
    · subst hj
      have holds : (((s.setLane j (withSettings v (s.lane j))).primeToWait j).modLane j (Lane.bindTo r)).holds q =
          ((s.setLane j (withSettings v (s.lane j))).primeToWait j).holds q := holds_congr fun k => by
        by_cases hk : k = j
        · subst hk
          rw [State.modLane_lane_self, wait]
          simp [Lane.holdOn, Lane.consuming, Lane.bindTo]
        · rw [State.modLane_lane_ne _ _ _ _ hk]
      rw [holds]
      exact leaveTo_followed (s := s.setLane j (withSettings v (s.lane j))) (by rwa [State.setLane_lane_self]) _
    · exact move.route q
    · exact congrArg (fun u : State => { u with lanes := s.lanes, routes := s.routes }) move.rest
  · rcases hs with hs | hs <;> exact applyBinding_of hs

/-- R161: a gain alone, on a lane that holds no staged change. -/
theorem applyBinding_gain (i : LaneId) (g : Nat) :
    let v : Settings := { route := none, plan := none, gain := some g, delay := none, amp := none }
    ((s.lane i).state = .stop ∨ (s.lane i).state = .wait ∨ (s.lane i).state = .prime →
      s.applyBinding i v = s.setLane i { s.lane i with gain := g }) ∧
    ((s.lane i).state = .play ∨ (s.lane i).state = .rampdown →
      s.applyBinding i v = s.setLane i { s.lane i with staged := some v }) := by
  intro v
  refine ⟨fun hs => ?_, fun hs => ?_⟩
  · rcases hs with hs | hs | hs <;> exact applyBinding_of hs
  · rcases hs with hs | hs <;> exact applyBinding_of hs

/-! ### The two requests and the wait -/

theorem exec_laneBind (h : Executing .laneBind ops rest s) (now : Time) :
    exec (.laneBind now) s = .next (laneBindItem ops (s.clockTo now)) :=
  congrArg Host.Outcome.next (actAt_runItem h now laneBindItem)

theorem exec_laneGain (h : Executing .laneGain ops rest s) : exec .laneGain s = .next (laneGainItem ops s) :=
  congrArg Host.Outcome.next (act_runItem h laneGainItem)

theorem exec_laneWaitEnd (h : Ready s) (now : Time) : exec (.laneWaitEnd now) s = .next (s.clockTo now).endLaneWait :=
  congrArg Host.Outcome.next (actAt_of_ready h _ now)

theorem taking_iff (t : Route) : t.taking = true ↔ t.state = .armed ∨ t.state = .live := by
  simp [Route.taking]

/-- R189: a LANE-BIND past its index checks, on a lane that holds no staged change. -/
theorem laneBindItem_unstaged {i : LaneId} {r : RouteId} {v : Settings} (hops : laneBindOperands ops = some (i, r, v))
    (staged : (s.lane i).staged = none) :
    ((s.route r).state ≠ .armed → (s.route r).state ≠ .live → laneBindItem ops s = s.finishItem .refusedState []) ∧
    ((s.route r).state = .armed ∨ (s.route r).state = .live →
      ∃ t : State, laneBindItem ops s = t.finishItem .done [] ∧ BindingMade s.time.lmc i r v s t) := by
  have item : laneBindItem ops s = s.bindChecked i r v := by
    unfold laneBindItem
    rw [hops]
    dsimp only
    rw [staged]
    rfl
  rw [item]
  unfold State.bindChecked
  refine ⟨fun ha hl => if_neg ?_, fun h => ⟨_, if_pos ((taking_iff _).mpr h), applyBinding_made (laneBindOperands_route hops)⟩⟩
  rw [taking_iff]
  exact fun h => h.elim ha hl

theorem laneBindItem_waits {i : LaneId} {r : RouteId} {v : Settings} (hops : laneBindOperands ops = some (i, r, v))
    (staged : (s.lane i).staged ≠ none) : laneBindItem ops s = s.awaitLane i := by
  unfold laneBindItem
  rw [hops]
  exact if_pos (Option.isSome_iff_ne_none.mpr staged)

theorem laneGainOperands_of {i : LaneId} (hi : (byteAt ops 0).toNat = i.val) (len : ops.length = 3) : laneGainOperands ops =
    some (i, { route := none, plan := none, gain := some (beNat (ops.drop 1)), delay := none, amp := none }) := by
  unfold laneGainOperands
  rw [laneOf_eq_some hi, fieldAt, List.take_of_length_le (by rw [List.length_drop]; omega)]
  rfl

theorem laneGainItem_unstaged {i : LaneId} (hi : (byteAt ops 0).toNat = i.val) (len : ops.length = 3)
    (staged : (s.lane i).staged = none) :
    ((s.lane i).state = .stop ∨ (s.lane i).state = .wait ∨ (s.lane i).state = .prime →
      laneGainItem ops s = (s.setLane i { s.lane i with gain := beNat (ops.drop 1) }).finishItem .done []) ∧
    ((s.lane i).state = .play ∨ (s.lane i).state = .rampdown →
      laneGainItem ops s = (s.setLane i { s.lane i with
        staged := some { route := none, plan := none, gain := some (beNat (ops.drop 1)), delay := none, amp := none } }).finishItem
          .done []) := by
  have item : laneGainItem ops s = (s.applyBinding i
      { route := none, plan := none, gain := some (beNat (ops.drop 1)), delay := none, amp := none }).finishItem .done [] := by
    unfold laneGainItem
    rw [laneGainOperands_of hi len]
    dsimp only
    rw [staged]
    rfl
  obtain ⟨now, later⟩ := applyBinding_gain (s := s) i (beNat (ops.drop 1))
  exact ⟨fun hs => by rw [item, now hs], fun hs => by rw [item, later hs]⟩

theorem laneGainItem_waits {i : LaneId} (hi : (byteAt ops 0).toNat = i.val) (len : ops.length = 3)
    (staged : (s.lane i).staged ≠ none) : laneGainItem ops s = s.awaitLane i := by
  unfold laneGainItem
  rw [laneGainOperands_of hi len]
  exact if_pos (Option.isSome_iff_ne_none.mpr staged)

/-- R182: the part as the item's remaining checks find it. -/
def State.resumed (s : State) : State := { s with mgmt := { s.mgmt with phase := .running } }

/-- R182: a wait that goes on, and one that ends with either request. -/
theorem endLaneWait_eq {i : LaneId} {item : Item} (hp : s.mgmt.phase = .laneWait i) (ht : s.mgmt.todo = item :: rest) :
    ((s.lane i).staged ≠ none → s.endLaneWait = s) ∧
    ((s.lane i).staged = none → item.code = 0x30 → s.endLaneWait = laneBindItem item.operands s.resumed) ∧
    ((s.lane i).staged = none → item.code = 0x32 → s.endLaneWait = laneGainItem item.operands s.resumed) := by
  have ends : s.endLaneWait = if (s.lane i).staged.isSome then s
      else if item.code = Request.code .laneBind then laneBindItem item.operands s.resumed
        else laneGainItem item.operands s.resumed := by
    unfold State.endLaneWait
    rw [hp, ht]
    rfl
  rw [ends]
  refine ⟨fun h => if_pos (Option.isSome_iff_ne_none.mpr h), fun h hc => ?_, fun h hc => ?_⟩
  · rw [h, if_neg (by simp)]
    exact if_pos hc
  · rw [h, if_neg (by simp)]
    exact if_neg (by rw [hc]; decide)

end Sys2Proof.Machine

namespace Sys2Proof.Proofs

open Sys2Proof.Machine Sys2Proof.Safety

/-- Settles O51: the operands, then the checks, then the binding by the lane's state. -/
theorem laneBound : Obligations.LaneBound := by
  unfold Obligations.LaneBound
  refine ⟨fun ops i r v len hops => ?_, fun s now ops rest h => ⟨fun none => ?_, ?_, fun i r v hops staged => ?_⟩⟩
  · intro b carried
    rcases laneBindOperands_cases ops with ⟨-, refused⟩ | ⟨i', r', hi, hr, -, taken⟩
    · rw [refused] at hops
      cases hops
    · rw [taken] at hops
      cases hops
      refine ⟨hi.symm, hr.symm, ?_⟩
      unfold carriedSettings
      rw [planOf_eq, ampOf_eq, fieldAt_two (by omega), fieldAt_two (by omega)]
  · rw [exec_laneBind h, laneBindItem, none]
  · rcases laneBindOperands_cases ops with ⟨bad, refused⟩ | ⟨i, r, hi, hr, good, taken⟩
    · exact iff_of_true refused bad
    · refine iff_of_false (by rw [taken]; simp) ?_
      rintro (h | h | h)
      · omega
      · omega
      · exact good h
  · intro u
    have bound := laneBindItem_unstaged (s := u) hops (by rwa [State.clockTo_lane])
    rw [State.clockTo_route, State.clockTo_lmc] at bound
    rw [exec_laneBind h]
    obtain ⟨refused, made⟩ := bound
    exact ⟨fun ha hl => congrArg _ (refused ha hl), fun ht => (made ht).imp fun t ht => ⟨congrArg _ ht.1, ht.2⟩⟩

/-- Settles O52: a gain at once or staged, the wait, and the two requests after it. -/
theorem laneGainAndWait : Obligations.LaneGainAndWait := by
  unfold Obligations.LaneGainAndWait
  refine ⟨fun s ops rest h => ⟨fun bad => ?_, fun i hi staged => ?_⟩, fun s now ops rest i r v h hops staged => ?_,
    fun s ops rest i h hi staged => ?_, fun s now i item rest h hp ht => ?_⟩
  · rw [exec_laneGain h, laneGainItem, laneGainOperands, laneOf_eq_none bad]
    rfl
  · obtain ⟨now, later⟩ := laneGainItem_unstaged hi h.length staged
    rw [exec_laneGain h]
    exact ⟨fun hs => congrArg _ (now hs), fun hs => congrArg _ (later hs)⟩
  · rw [exec_laneBind h, laneBindItem_waits hops (by rwa [State.clockTo_lane]), State.awaitLane, State.clockTo_mgmt]
  · rw [exec_laneGain h, laneGainItem_waits hi h.length staged]
    rfl
  · intro u l
    have resumed : (s.clockTo now).resumed = u := by
      unfold State.resumed
      rw [State.clockTo_mgmt]
    have lane : u.lane i = l := State.clockTo_lane s now i
    obtain ⟨waits, binds, gains⟩ := endLaneWait_eq (s := s.clockTo now) (i := i) (item := item) (rest := rest) (by simpa using hp)
      (by simpa using ht)
    rw [State.clockTo_lane] at waits binds gains
    rw [exec_laneWaitEnd h]
    refine ⟨fun hs => congrArg _ (waits hs), fun hs hc len hi hstate => ?_, fun hs hc len hi hstate => ?_, fun r v hs hc hops => ?_⟩
    · rw [gains hs hc, resumed, (laneGainItem_unstaged (s := u) hi len (by rw [lane, hs])).1 (by rwa [lane]), lane]
    · rw [gains hs hc, resumed, (laneGainItem_unstaged (s := u) hi len (by rw [lane, hs])).2 (by rwa [lane]), lane]
    · have bound := laneBindItem_unstaged (s := u) hops (by rw [lane, hs])
      rw [show u.route r = s.route r from State.clockTo_route s now r, show u.time.lmc = now from State.clockTo_lmc s now] at bound
      obtain ⟨refused, made⟩ := bound
      rw [binds hs hc, resumed]
      exact ⟨fun ha hl => congrArg _ (refused ha hl), fun ht => (made ht).imp fun t ht => ⟨congrArg _ ht.1, ht.2⟩⟩

end Sys2Proof.Proofs
end

section
/-! The freeing of a route (R103, R112, R125), and O19: the end of a burst. -/

namespace Sys2Proof.Machine

open Sys2Proof.Safety

variable {s : State}

/-! ### Freeing a route -/

/-- What the end of an item makes of engine and transmitter depends on these and the pins alone. -/
theorem finishItem_parts {u : State} (mgmt : u.mgmt = s.mgmt) (tx : u.tx = s.tx) (pins : u.pins = s.pins) (st : Status)
    (data : List Byte) : (u.finishItem st data).mgmt = (s.finishItem st data).mgmt ∧
      (u.finishItem st data).tx = (s.finishItem st data).tx := by
  unfold State.finishItem State.endExecution State.offerReply State.frameInHand
  simp only [mgmt, tx, pins]
  cases s.mgmt.todo with
  | nil => exact ⟨mgmt, tx⟩
  | cons item rest =>
    dsimp only
    split
    · exact ⟨rfl, rfl⟩
    · refine ⟨rfl, ?_⟩
      cases s.mgmt.queue.head? with
      | none => exact tx
      | some f =>
        dsimp only
        split
        · split
          · rfl
          · exact tx
        · exact tx

theorem withdrawPeek_waiting {r : RouteId} {first count : Nat} (h : s.mgmt.phase = .storeWait r first count) :
    s.withdrawPeek r = s.finishItem .done (List.replicate 9 0) := by
  unfold State.withdrawPeek
  rw [h]
  exact if_pos rfl

theorem withdrawPeek_other {r : RouteId} (h : ∀ first count, s.mgmt.phase ≠ .storeWait r first count) : s.withdrawPeek r = s := by
  unfold State.withdrawPeek
  split
  next r' first count hp =>
    refine if_neg fun hr => h first count ?_
    rw [hp, hr]
  next => rfl

theorem freeRoute_freed {r : RouteId} {c : RouteConfig} (hc : (s.route r).config = some c) : RouteFreed r c s (s.freeRoute r) := by
  obtain ⟨pages, routes, kept⟩ := giveBack_eq (s := s) r
  obtain ⟨route, -, store, -⟩ := freeRoute_spec (s := s) r
  have blank : ∀ q : RouteId, State.reset.route q = Route.unused := by decide
  refine ⟨by rw [route, blank], congrArg Store.pages (store c hc), fun first count hp => ?_, fun hn => ?_⟩
  · rw [freeRoute_eq, kept, withdrawPeek_waiting (s := { s with store := { s.store with pages := pages }, routes := routes }) hp]
    intro ended
    exact finishItem_parts (s := s) (u := { s with store := { s.store with pages := pages }, routes := routes }) rfl rfl rfl _ _
  · rw [freeRoute_eq, kept, withdrawPeek_other (s := { s with store := { s.store with pages := pages }, routes := routes }) hn]
    exact ⟨rfl, rfl⟩

end Sys2Proof.Machine

namespace Sys2Proof.Safety

open Sys2Proof.Machine

/-- What a freed route's law says of two parts that agree where it looks. -/
theorem RouteFreed.congr {s : State} {r : RouteId} {c : RouteConfig} {u v t : State} (h : RouteFreed r c u v)
    (counters : (u.route r).counters = (s.route r).counters) (pages : u.store.pages = s.store.pages) (mgmt : u.mgmt = s.mgmt)
    (tx : u.tx = s.tx) (pins : u.pins = s.pins) (route : t.route r = v.route r) (pages' : t.store.pages = v.store.pages)
    (mgmt' : t.mgmt = v.mgmt) (tx' : t.tx = v.tx) : RouteFreed r c s t := by
  refine ⟨by rw [route, h.route, counters], by rw [pages', h.pages, pages], fun first count hp => ?_, fun hn => ?_⟩
  · obtain ⟨hm, ht⟩ := h.withdrawn first count (by rw [mgmt, hp])
    obtain ⟨fm, ft⟩ := finishItem_parts mgmt tx pins .done (List.replicate 9 0)
    exact ⟨by rw [mgmt', hm, fm], by rw [tx', ht, ft]⟩
  · obtain ⟨hm, ht⟩ := h.kept (by rwa [mgmt])
    exact ⟨by rw [mgmt', hm, mgmt], by rw [tx', ht, tx]⟩

end Sys2Proof.Safety

namespace Sys2Proof.Machine

open Sys2Proof.Safety

variable {s : State}

theorem freeRoute_frame (r : RouteId) : ∃ pages routes rep mgmt, s.freeRoute r =
    { s with store := { s.store with pages := pages }, routes := routes, tx := { s.tx with rep := rep }, mgmt := mgmt } := by
  obtain ⟨pages, routes, kept⟩ := giveBack_eq (s := s) r
  obtain ⟨rep, mgmt, withdrawn⟩ := withdrawPeek_frame (s := s.giveBack r) r
  rw [freeRoute_eq, withdrawn, kept]
  exact ⟨_, _, _, _, rfl⟩

theorem tryFree_frame (r : RouteId) : ∃ pages routes rep mgmt, s.tryFree r =
    { s with store := { s.store with pages := pages }, routes := routes, tx := { s.tx with rep := rep }, mgmt := mgmt } := by
  rcases tryFree_cases (s := s) r with ⟨-, -, -, h⟩ | ⟨-, h⟩
  · rw [h]
    exact freeRoute_frame r
  · rw [h]
    exact ⟨s.store.pages, s.routes, s.tx.rep, s.mgmt, rfl⟩

theorem tryFree_route_ne {r q : RouteId} (h : q ≠ r) : (s.tryFree r).route q = s.route q := by
  rcases tryFree_cases (s := s) r with ⟨-, -, -, h'⟩ | ⟨-, h'⟩
  · rw [h']
    exact (freeRoute_spec r).2.1 q h
  · rw [h']

theorem hasLane_iff {r : RouteId} : s.hasLane r = true ↔ ∃ i, (s.lane i).route = some r := by
  simp only [State.hasLane, List.any_eq_true, beq_iff_eq]
  exact ⟨fun ⟨i, _, h⟩ => ⟨i, h⟩, fun ⟨i, h⟩ => ⟨i, mem_allLanes i, h⟩⟩

theorem placing_iff {r : RouteId} : s.placing r = true ↔ ∃ p, s.store.placement = some p ∧ p.route = r := by
  unfold State.placing
  cases s.store.placement <;> simp

/-! ### The end of a burst -/

theorem exec_storeBurstEnd (h : Ready s) : exec .storeBurstEnd s = .next s.endBurst :=
  congrArg Host.Outcome.next (act_of_ready h _)

/-- R122: the arbiter at work where the memory has just become free. -/
theorem arbitrate_free (hb : s.store.burst = none) : Granted { s.arbitrate.store with burst := none, reads := s.store.reads } s.arbitrate.store ∧
    s.arbitrate = { s with store := s.arbitrate.store } ∧ s.arbitrate.store.mem = s.store.mem ∧
    s.arbitrate.store.placement = s.store.placement ∧ s.arbitrate.store.pages = s.store.pages := by
  obtain ⟨burst, reads, h⟩ := arbitrate_frame (s := s)
  have before : { s.arbitrate.store with burst := none, reads := s.store.reads } = s.store := by
    rw [h, ← hb]
  refine ⟨?_, ?_, ?_, ?_, ?_⟩
  · rw [before]
    exact arbitrate_granted
  all_goals rw [h]

/-- R119, R122: the part once a write has landed. -/
def State.written (base : Nat) (bytes : List Byte) (s : State) : State :=
  { s with store := { s.store with burst := none, mem := Memory.write s.store.mem base bytes } }

/-- R104, R119: what the end of a write makes of the placement it wrote for. -/
def State.burstLanded (base : Nat) (bytes : List Byte) (s : State) : State :=
  match s.store.placement with
  | some p =>
    if p.abandoned then ((s.written base bytes).dropPlacement p).tryFree p.route
    else { s.written base bytes with
      store := { (s.written base bytes).store with placement := some { p with written := p.written + 1 } } }
  | none => s.written base bytes

theorem endBurst_write {base : Nat} {bytes : List Byte} (h : s.store.burst = some (.write base bytes)) :
    s.endBurst = (s.burstLanded base bytes).arbitrate := by
  unfold State.endBurst
  rw [h]
  rfl

theorem burstLanded_going {base : Nat} {bytes : List Byte} {p : Placement} (hp : s.store.placement = some p)
    (ha : p.abandoned = false) : s.burstLanded base bytes = { s.written base bytes with
      store := { (s.written base bytes).store with placement := some { p with written := p.written + 1 } } } := by
  unfold State.burstLanded
  rw [hp]
  exact if_neg (by rw [ha]; simp)

theorem burstLanded_abandoned {base : Nat} {bytes : List Byte} {p : Placement} (hp : s.store.placement = some p)
    (ha : p.abandoned = true) : s.burstLanded base bytes = ((s.written base bytes).dropPlacement p).tryFree p.route := by
  unfold State.burstLanded
  rw [hp]
  exact if_pos ha

theorem burstLanded_store (base : Nat) (bytes : List Byte) : (s.burstLanded base bytes).store.mem = Memory.write s.store.mem base bytes ∧
    (s.burstLanded base bytes).store.burst = none ∧ (s.burstLanded base bytes).store.reads = s.store.reads := by
  cases hp : s.store.placement with
  | none =>
    unfold State.burstLanded
    rw [hp]
    exact ⟨rfl, rfl, rfl⟩
  | some p =>
    cases ha : p.abandoned with
    | false =>
      rw [burstLanded_going hp ha]
      exact ⟨rfl, rfl, rfl⟩
    | true =>
      obtain ⟨pages, routes, rep, mgmt, h⟩ := tryFree_frame (s := (s.written base bytes).dropPlacement p) p.route
      rw [burstLanded_abandoned hp ha, h]
      exact ⟨rfl, rfl, rfl⟩

/-- R104, R121: an abandoned placement, dropped at the end of its last burst. -/
theorem burstLanded_drop {base : Nat} {bytes : List Byte} {p : Placement} (hp : s.store.placement = some p)
    (ha : p.abandoned = true) :
    let tr := s.route p.route
    let t := s.burstLanded base bytes
    t.store.placement = none ∧ t.rx = { s.rx with ingress := s.rx.ingress.tail, hand := none } ∧
      (tr.state ≠ .draining ∨ s.hasLane p.route = true →
        t.routes = (s.setRoute p.route { tr with dir := tr.dir.set p.index .invalid }).routes
          ∧ t.store.pages = s.store.pages ∧ t.mgmt = s.mgmt ∧ t.tx = s.tx) ∧
      (∀ c, tr.state = .draining → s.hasLane p.route = false → tr.config = some c → RouteFreed p.route c s t) ∧
      (∀ r, r ≠ p.route → t.route r = s.route r) ∧
      { t with store := s.store, rx := s.rx, routes := s.routes, mgmt := s.mgmt, tx := s.tx } = s := by
  intro tr t
  have ht : t = ((s.written base bytes).dropPlacement p).tryFree p.route := burstLanded_abandoned hp ha
  set v : State := (s.written base bytes).dropPlacement p with hv
  have own : v.route p.route = { tr with dir := tr.dir.set p.index .invalid } := State.setRoute_route_self s p.route _
  obtain ⟨pages, routes, rep, mgmt, frame⟩ := tryFree_frame (s := v) p.route
  refine ⟨?_, ?_, fun stays => ?_, fun c draining empty hc => ?_, fun r hr => ?_, ?_⟩
  · rw [ht, frame]
    rfl
  · rw [ht, frame]
    rfl
  · have kept : v.tryFree p.route = v := by
      rcases tryFree_cases (s := v) p.route with ⟨hd, hl, -, -⟩ | ⟨-, h⟩
      · rw [own] at hd
        rcases stays with hn | hn
        · exact absurd hd hn
        · exact absurd (hl.symm.trans hn) (by simp)
      · exact h
    rw [ht, kept]
    exact ⟨rfl, rfl, rfl, rfl⟩
  · have freed : v.tryFree p.route = v.freeRoute p.route := if_pos ⟨by rw [own]; exact draining, empty, rfl⟩
    have law : RouteFreed p.route c v (v.freeRoute p.route) := freeRoute_freed (by rw [own]; exact hc)
    rw [ht, freed]
    exact law.congr (by rw [own]) rfl rfl rfl rfl rfl rfl rfl rfl
  · rw [ht, tryFree_route_ne hr]
    exact State.setRoute_route_ne s p.route r _ hr
  · rw [ht, frame]
    rfl

theorem endBurst_other {b : Burst} (h : s.store.burst = some b) (hb : ∀ base bytes, b ≠ .write base bytes) :
    s.endBurst = ({ s with store := { s.store with burst := none } } : State).arbitrate := by
  unfold State.endBurst
  rw [h]
  cases b with
  | write base bytes => exact absurd rfl (hb base bytes)
  | laneRead | peek => rfl

end Sys2Proof.Machine

namespace Sys2Proof.Proofs

open Sys2Proof.Machine Sys2Proof.Safety

/-- Settles O19: the write lands, its placement goes on or is dropped, and the memory is granted again. -/
theorem storeBurstEnds : Obligations.StoreBurstEnds := by
  unfold Obligations.StoreBurstEnds
  intro s b h hb
  rw [exec_storeBurstEnd h]
  refine ⟨s.endBurst, rfl, ?_⟩
  by_cases hw : ∃ base bytes, b = .write base bytes
  · obtain ⟨base, bytes, rfl⟩ := hw
    rw [endBurst_write hb]
    obtain ⟨mem, burst, reads⟩ := burstLanded_store (s := s) base bytes
    obtain ⟨granted, rest, mem', placement', pages'⟩ := arbitrate_free burst
    have same := congrArg State.route rest
    refine ⟨?_, fun hn => absurd rfl (hn base bytes), by rw [reads] at granted; exact granted⟩
    rintro base' bytes' ⟨⟩
    refine ⟨fun k hk hm => ?_, fun a ha => ?_, fun p hp ha => ⟨?_, ?_⟩, fun p hp ha => ?_⟩
    · rw [mem', mem]
      exact Memory.readByte_write_inside _ _ _ _ hk hm
    · rw [mem', mem]
      exact Memory.readByte_write_outside _ _ _ _ ha
    · rw [placement', burstLanded_going hp ha]
    · refine rest.trans ?_
      rw [burstLanded_going hp ha]
      rfl
    · obtain ⟨none, rx, stays, frees, others, kept⟩ := burstLanded_drop (base := base) (bytes := bytes) hp ha
      refine ⟨placement'.trans none, (congrArg State.rx rest).trans rx, fun h => ?_, fun c hd hl hc => ?_, fun r hr => ?_, ?_⟩
      · obtain ⟨routes, pages, mgmt, tx⟩ := stays h
        exact ⟨(congrArg State.routes rest).trans routes, pages'.trans pages, (congrArg State.mgmt rest).trans mgmt,
          (congrArg State.tx rest).trans tx⟩
      · have mgmt := congrArg State.mgmt rest
        have tx := congrArg State.tx rest
        exact (frees c hd hl hc).congr rfl rfl rfl rfl rfl (congrFun same _) pages' mgmt tx
      · exact (congrFun same r).trans (others r hr)
      · rw [rest]
        exact kept
  · have other : ∀ base bytes, b ≠ .write base bytes := fun base bytes h => hw ⟨base, bytes, h⟩
    rw [endBurst_other hb other]
    obtain ⟨granted, rest, mem, placement, -⟩ := arbitrate_free (s := { s with store := { s.store with burst := none } }) rfl
    exact ⟨fun base bytes h => absurd h (other base bytes), fun _ => ⟨rest, mem, placement⟩, granted⟩

end Sys2Proof.Proofs
end

section
/-! O31: the ends of ramps (R139, R141, R163, R103). -/

namespace Sys2Proof.Machine

open Sys2Proof.Safety

variable {s : State}

theorem exec_rampInEnd (h : s.pins.inReset = false) (i : LaneId) : exec (.rampInEnd i) s = .next (s.rampInEndAct i) := by
  show Host.Outcome.next (s.followUp (State.rampInEndAct i)) = _
  simp [State.followUp, h]

theorem exec_rampEnd (h : s.pins.inReset = false) (i : LaneId) : exec (.rampEnd i) s = .next (s.rampEndAct i) := by
  show Host.Outcome.next (s.followUp (State.rampEndAct i)) = _
  simp [State.followUp, h]

/-! ### What is left of a ramp-down -/

/-- What a lane's move keeps, field by field. -/
theorem LaneMove.kept {i : LaneId} {l : Lane} {t : State} (h : LaneMove i l s t) :
    t.store = s.store ∧ t.mgmt = s.mgmt ∧ t.tx = s.tx ∧ t.pins = s.pins ∧ t.slots = s.slots ∧ t.cond = s.cond ∧ t.out = s.out ∧
      t.rx = s.rx ∧ t.time = s.time := by
  have rest := h.rest
  exact ⟨(congrArg State.store rest :), (congrArg State.mgmt rest :), (congrArg State.tx rest :), (congrArg State.pins rest :),
    (congrArg State.slots rest :), (congrArg State.cond rest :), (congrArg State.out rest :), (congrArg State.rx rest :),
    (congrArg State.time rest :)⟩

/-- A lane in WAIT or STOP consumes nothing. -/
theorem holdOn_idle {l : Lane} (h : l.state = .wait ∨ l.state = .stop) (r : RouteId) : l.holdOn r = none := by
  rcases h with h | h <;> simp [Lane.holdOn, Lane.consuming, h]

/-- R103: a route that is not held by draining, by a lane and by a placement together does not become FREE. -/
theorem tryFree_stays {r : RouteId} (h : ¬ ((s.route r).state = .draining ∧ s.hasLane r = false ∧ s.placing r = false)) :
    s.tryFree r = s := if_neg h

theorem tryFree_frees {r : RouteId} (h : (s.route r).state = .draining ∧ s.hasLane r = false ∧ s.placing r = false) :
    s.tryFree r = s.freeRoute r := if_pos h

/-- R103: the route that a lane leaves for STOP is one it was the last to hold. -/
def LastHold (i : LaneId) (r : RouteId) (dest : Destination) (s : State) : Prop :=
  (s.route r).state = .draining ∧ dest = .stop ∧ (∀ j, j ≠ i → (s.lane j).route ≠ some r)
    ∧ ∀ p, s.store.placement = some p → p.route ≠ r

theorem placing_eq_false {r : RouteId} : s.placing r = false ↔ ∀ p, s.store.placement = some p → p.route ≠ r := by
  rw [← Bool.not_eq_true, placing_iff]
  exact ⟨fun h p hp hr => h ⟨p, hp, hr⟩, fun h ⟨p, hp, hr⟩ => h p hp hr⟩

/-- R103: what holds a route once a lane has taken a record bound to no route. -/
theorem freeable_of_move {i : LaneId} {r : RouteId} {l : Lane} {u : State} (h : LaneMove i l s u) (hl : l.route = none) :
    ((u.route r).state = .draining ∧ u.hasLane r = false ∧ u.placing r = false) ↔ LastHold i r .stop s := by
  have state : (u.route r).state = (s.route r).state := by rw [h.route r]
  have placement : u.store.placement = s.store.placement := by rw [← h.rest]
  have lanes : u.hasLane r = false ↔ ∀ j, j ≠ i → (s.lane j).route ≠ some r := by
    rw [← Bool.not_eq_true, hasLane_iff, not_exists]
    refine ⟨fun hn j hj => by rw [← h.lane_ne hj]; exact hn j, fun hn j => ?_⟩
    by_cases hj : j = i
    · rw [hj, h.lane, hl]
      simp
    · rw [h.lane_ne hj]
      exact hn j hj
  rw [state, lanes, placing_eq_false, placement]
  exact ⟨fun ⟨draining, alone, unplaced⟩ => ⟨draining, rfl, alone, unplaced⟩,
    fun ⟨draining, _, alone, unplaced⟩ => ⟨draining, alone, unplaced⟩⟩

/-- R115, R141: what a lane's leaving of RAMPDOWN does to the part but for the lane's own record. -/
structure RampLeft (i : LaneId) (r : RouteId) (dest : Destination) (s u : State) : Prop where
  lane_ne : ∀ j, j ≠ i → u.lane j = s.lane j
  route_ne : ∀ q, q ≠ r → u.route q = s.route q
  stays : ¬ LastHold i r dest s → ReleaseFollowed (u.holds r) (s.route r) (u.route r)
    ∧ u.route r = { s.route r with release := (u.route r).release, dir := (u.route r).dir }
    ∧ u.store = s.store ∧ u.mgmt = s.mgmt ∧ u.tx = s.tx
  frees : ∀ c, (s.route r).config = some c → LastHold i r dest s → RouteFreed r c s u
  taking : ∀ q, (u.route q).taking = (s.route q).taking
  rest : u.slots = s.slots ∧ u.cond = s.cond ∧ u.out = s.out ∧ u.rx = s.rx ∧ u.time = s.time

theorem leaveTo_rampLeft {i : LaneId} {r : RouteId} {dest : Destination} (hr : (s.lane i).route = some r)
    (hn : ¬ LastHold i r dest s) (l : Lane) : RampLeft i r dest s (s.leaveTo i l) := by
  have move : LaneMove i l s (s.leaveTo i l) := leaveTo_move i l
  obtain ⟨store, mgmt, tx, -, rest⟩ := move.kept
  exact {
    lane_ne := fun j hj => move.lane_ne hj
    route_ne := fun q hq => move.route_other q (by rw [hr]; simpa using hq.symm)
    stays := fun _ => ⟨leaveTo_followed hr l, move.route r, store, mgmt, tx⟩
    frees := fun _ _ last => absurd last hn
    taking := fun q => by rw [move.route q]; rfl
    rest }

theorem leaveTo_freed {i : LaneId} {r : RouteId} {l : Lane} (hr : (s.lane i).route = some r) (last : LastHold i r .stop s) :
    RampLeft i r .stop s ((s.leaveTo i l).freeRoute r) := by
  have move : LaneMove i l s (s.leaveTo i l) := leaveTo_move i l
  obtain ⟨store, mgmt, tx, pins, rest⟩ := move.kept
  obtain ⟨own, other, -, -, lanes, -, -⟩ := freeRoute_spec (s := s.leaveTo i l) r
  obtain ⟨pages, routes, rep, engine, frame⟩ := freeRoute_frame (s := s.leaveTo i l) r
  have route_ne : ∀ q, q ≠ r → ((s.leaveTo i l).freeRoute r).route q = s.route q := fun q hq =>
    (other q hq).trans (move.route_other q (by rw [hr]; simpa using hq.symm))
  exact {
    lane_ne := fun j hj => by rw [State.lane, lanes]; exact move.lane_ne hj
    route_ne
    stays := fun hn => absurd last hn
    frees := fun c hc _ => (freeRoute_freed (by rw [move.route r]; exact hc)).congr (by rw [move.route r])
      (congrArg Store.pages store) mgmt tx pins rfl rfl rfl rfl
    taking := fun q => by
      by_cases hq : q = r
      · rw [hq, own]
        unfold Route.taking
        rw [last.1]
        rfl
      · rw [route_ne q hq]
    rest := by
      rw [frame]
      exact rest }

theorem leaveRamp_left {i : LaneId} {r : RouteId} (hr : (s.lane i).route = some r) (dest : Destination) :
    RampLeft i r dest s (s.leaveRamp i dest) := by
  unfold State.leaveRamp
  cases dest with
  | wait => exact leaveTo_rampLeft (dest := .wait) hr (fun ⟨_, h, _⟩ => by cases h) _
  | stop =>
    simp only [hr]
    have freeable := freeable_of_move (r := r) (leaveTo_move (s := s) i
      { stoppedConsuming s.time.lmc (s.lane i) with state := .stop, route := none }) rfl
    by_cases last : LastHold i r .stop s
    · rw [tryFree_frees (freeable.mpr last)]
      exact leaveTo_freed hr last
    · rw [tryFree_stays (mt freeable.mp last)]
      exact leaveTo_rampLeft hr last _

/-! ### The landing of a staged change -/

/-- R163: the lane's record once a staged change has landed after the ramp, its route part judged by `takes`. -/
def Lane.landedChange (takes : RouteId → Bool) (l : Lane) : Lane :=
  match l.staged with
  | none => l
  | some v =>
    let l' := { withSettings v l with staged := none }
    match v.route with
    | none => l'
    | some q => if takes q then { l' with route := some q, state := .wait } else l'

theorem setLane_lane_own (i : LaneId) : s.setLane i (s.lane i) = s := by
  have h : s.lanes.set i.val s.lanes[i] i.isLt = s.lanes := by simp
  unfold State.setLane State.lane
  rw [h]

theorem landAtRampEnd_eq (i : LaneId) :
    s.landAtRampEnd i = s.setLane i ((s.lane i).landedChange fun q => (s.route q).taking) := by
  unfold State.landAtRampEnd Lane.landedChange
  cases (s.lane i).staged with
  | none => exact (setLane_lane_own i).symm
  | some v =>
    dsimp only
    have written : s.modLane i (fun l => { l.applySettings v with staged := none }) =
        s.setLane i { withSettings v (s.lane i) with staged := none } := by rw [State.modLane, applySettings_eq]
    rw [written]
    cases v.route with
    | none => rfl
    | some q =>
      dsimp only
      unfold State.landRoute
      rw [State.setLane_route]
      split
      · simp [State.modLane, State.setLane, State.lane, Lane.bindTo]
      · rfl

theorem landedChange_idle {l : Lane} (h : l.state = .wait ∨ l.state = .stop) (takes : RouteId → Bool) :
    (l.landedChange takes).state = .wait ∨ (l.landedChange takes).state = .stop := by
  unfold Lane.landedChange
  split
  · exact h
  · split
    · exact h
    · split
      · exact .inl rfl
      · exact h

theorem endRamp_lands (i : LaneId) (dest : Destination) : s.endRamp i dest = (s.leaveRamp i dest).landAtRampEnd i := by
  unfold State.endRamp State.leaveRamp
  rw [startHold_clearPlay] <;> cases dest <;> rfl

theorem landed_idle (now : Time) (dest : Destination) (l : Lane) :
    (l.landed now dest).state = .wait ∨ (l.landed now dest).state = .stop := by
  cases dest
  · exact .inl rfl
  · exact .inr rfl

theorem rampEndAct_of {i : LaneId} {count level : Nat} {dest : Destination} (hs : (s.lane i).state = .rampdown)
    (hr : (s.lane i).ramp = some (.down count level dest)) (hc : 64 < count) : s.rampEndAct i = s.endRamp i dest := by
  unfold State.rampEndAct
  rw [hs, hr]
  exact if_pos hc

theorem rampInEndAct_of {i : LaneId} {m : Nat} (hr : (s.lane i).ramp = some (.up m)) (hm : 64 < m) :
    s.rampInEndAct i = s.setLane i { s.lane i with ramp := none } := by
  unfold State.rampInEndAct
  rw [hr]
  exact if_pos hm

end Sys2Proof.Machine

namespace Sys2Proof.Proofs

open Sys2Proof.Machine Sys2Proof.Safety

/-- Settles O31: the lane leaves its ramp, its route follows or is freed, and the staged change lands on the lane alone. -/
theorem rampsEnd : Obligations.RampsEnd := by
  unfold Obligations.RampsEnd
  refine ⟨fun s i m h hr hm => by rw [exec_rampInEnd h, rampInEndAct_of hr hm], fun s i r count level dest h hs hd hc hr => ?_⟩
  intro landed left
  have own : (s.leaveRamp i dest).lane i = left := (leaveRamp_lane i dest).trans (by cases dest <;> rfl)
  have left_eq : left = (s.lane i).landed s.time.lmc dest := by cases dest <;> rfl
  have staged : left.staged = (s.lane i).staged := by cases dest <;> rfl
  obtain ⟨lane_ne, route_ne, stays, frees, taking, rest⟩ := leaveRamp_left hr dest
  set u := s.leaveRamp i dest
  have idle := landedChange_idle (left_eq ▸ landed_idle s.time.lmc dest (s.lane i)) fun q => (u.route q).taking
  have t_eq : s.rampEndAct i = u.setLane i (left.landedChange fun q => (u.route q).taking) := by
    rw [rampEndAct_of hs hd hc, endRamp_lands, landAtRampEnd_eq, own]
  have holds : (u.setLane i (left.landedChange fun q => (u.route q).taking)).holds r = u.holds r := holds_congr fun k => by
    by_cases hk : k = i
    · rw [hk, State.setLane_lane_self, own, holdOn_idle idle,
        holdOn_idle (left_eq ▸ landed_idle s.time.lmc dest (s.lane i))]
    · rw [State.setLane_lane_ne (h := hk)]
  refine ⟨_, (exec_rampEnd h i).trans (congrArg Host.Outcome.next t_eq), ?_, fun j hj => ?_, route_ne, ⟨fun hn => ?_, ?_⟩, rest⟩
  · rw [State.setLane_lane_self]
    unfold Lane.landedChange
    rw [staged]
    cases (s.lane i).staged with
    | none => rfl
    | some v =>
      dsimp only
      cases v.route with
      | none => rfl
      | some q =>
        dsimp only
        simp only [taking, taking_iff]
  · rw [State.setLane_lane_ne (h := hj)]
    exact lane_ne j hj
  · rw [holds]
    exact stays hn
  · exact fun c hcfg last => (frees c hcfg last).congr rfl rfl rfl rfl rfl rfl rfl rfl rfl

end Sys2Proof.Proofs
end

section
/-! O47: ROUTE-ARM. -/

namespace Sys2Proof.Machine

open Sys2Proof.Safety

variable {s : State} {ops : List Byte} {rest : List Item}

theorem exec_routeArm (h : Executing .routeArm ops rest s) : exec .routeArm s = .next (routeArmItem ops s) :=
  congrArg Host.Outcome.next (act_runItem h routeArmItem)

/-! ### The operands (R90, R91) -/

theorem routeModeOf_eq (b : Byte) : routeModeOf b = [RouteMode.sink, .source][b.toNat]? := by
  by_cases h : b.toNat ≤ 1
  · rcases byte_eq_zero_or_one h with rfl | rfl <;> rfl
  · have h0 : b ≠ 0 := by rintro rfl; simp at h
    have h1 : b ≠ 1 := by rintro rfl; simp at h
    rw [List.getElem?_eq_none (by simp only [List.length_cons, List.length_nil]; omega), routeModeOf, if_neg h0, if_neg h1]

theorem concealOf_eq (b : Byte) : concealOf b = [ConcealMode.silence, .repeat][b.toNat]? := by
  by_cases h : b.toNat ≤ 1
  · rcases byte_eq_zero_or_one h with rfl | rfl <;> rfl
  · have h0 : b ≠ 0 := by rintro rfl; simp at h
    have h1 : b ≠ 1 := by rintro rfl; simp at h
    rw [List.getElem?_eq_none (by simp only [List.length_cons, List.length_nil]; omega), concealOf, if_neg h0, if_neg h1]

theorem routeModeOf_none {b : Byte} (h : 1 < b.toNat) : routeModeOf b = none := by
  rw [routeModeOf_eq, List.getElem?_eq_none h]

theorem concealOf_none {b : Byte} (h : 1 < b.toNat) : concealOf b = none := by
  rw [concealOf_eq, List.getElem?_eq_none h]

theorem routeModeOf_le {b : Byte} (h : b.toNat ≤ 1) : ∃ mode, routeModeOf b = some mode ∧ (mode = .source ↔ b = 1) := by
  rcases byte_eq_zero_or_one h with rfl | rfl
  · exact ⟨.sink, rfl, by decide⟩
  · exact ⟨.source, rfl, by decide⟩

theorem concealOf_le {b : Byte} (h : b.toNat ≤ 1) : ∃ mode, concealOf b = some mode ∧ (mode = .repeat ↔ b = 1) := by
  rcases byte_eq_zero_or_one h with rfl | rfl
  · exact ⟨.silence, rfl, by decide⟩
  · exact ⟨.repeat, rfl, by decide⟩

/-- R90: an index or an enumeration of ROUTE-ARM is out of its range. -/
def armIndexBad (ops : List Byte) : Prop :=
  7 < (byteAt ops 0).toNat ∨ 3 < (byteAt ops 3).toNat ∨ 1 < (byteAt ops 4).toNat ∨ 1 < (byteAt ops 7).toNat

/-- R91: the configuration that the operands of ROUTE-ARM give, in numbers of the operands' own. -/
structure ArmedFrom (ops : List Byte) (r : RouteId) (c : RouteConfig) : Prop where
  route : r.val = (byteAt ops 0).toNat
  slot : c.slot.val = (byteAt ops 3).toNat
  mode : c.mode = .source ↔ byteAt ops 4 = 1
  conceal : c.concealMode = .repeat ↔ byteAt ops 7 = 1
  depth : c.depth = depthOf (fieldAt ops 5 1)
  slotPages : c.slotPages = clampNat 1 8 (fieldAt ops 6 1)
  concealLimit : c.concealLimit = min (clampNat 1 8 (fieldAt ops 8 1)) (depthOf (fieldAt ops 5 1) / 2)
  lead : c.lead = if c.mode = .source then some (clampNat 4096 8388608 (fieldAt ops 9 4)) else none
  stream : c.stream = BitVec.ofNat 16 (fieldAt ops 1 2)

theorem routeArmOperands_bad (h : armIndexBad ops) : routeArmOperands ops = none := by
  unfold routeArmOperands
  rcases h with h | h | h | h
  · rw [routeOf_none h]
  · rw [slotOf_none h]
    cases routeOf (byteAt ops 0) <;> rfl
  · rw [routeModeOf_none h]
    cases routeOf (byteAt ops 0) <;> cases slotOf (byteAt ops 3) <;> rfl
  · rw [concealOf_none h]
    cases routeOf (byteAt ops 0) <;> cases slotOf (byteAt ops 3) <;> cases routeModeOf (byteAt ops 4) <;> rfl

theorem routeArmOperands_good (h : ¬ armIndexBad ops) : ∃ r c, routeArmOperands ops = some (r, c) ∧ ArmedFrom ops r c := by
  simp only [armIndexBad, not_or, not_lt] at h
  obtain ⟨h0, h3, h4, h7⟩ := h
  obtain ⟨mode, hm, source⟩ := routeModeOf_le h4
  obtain ⟨conceal, hc, repeats⟩ := concealOf_le h7
  have hr := routeOf_some (b := byteAt ops 0) (r := ⟨(byteAt ops 0).toNat, by omega⟩) rfl
  have hi := slotOf_some (b := byteAt ops 3) (i := ⟨(byteAt ops 3).toNat, by omega⟩) rfl
  unfold routeArmOperands
  rw [hr, hi, hm, hc]
  exact ⟨_, _, rfl, rfl, rfl, source, repeats, rfl, rfl, rfl, rfl, rfl⟩

theorem routeArmOperands_none : routeArmOperands ops = none ↔ armIndexBad ops := by
  refine ⟨fun h => by_contra fun good => ?_, routeArmOperands_bad⟩
  obtain ⟨r, c, some, -⟩ := routeArmOperands_good good
  rw [h] at some
  cases some

theorem routeArmOperands_from {r : RouteId} {c : RouteConfig} (h : routeArmOperands ops = some (r, c)) : ArmedFrom ops r c := by
  obtain ⟨r', c', some, given⟩ := routeArmOperands_good (ops := ops) fun bad => by
    rw [routeArmOperands_bad bad] at h
    cases h
  rw [h] at some
  cases some
  exact given

theorem ArmedFrom.length_pos {r : RouteId} {c : RouteConfig} (h : ArmedFrom ops r c) : 0 < c.depth * c.slotPages := by
  rw [h.depth, h.slotPages, clampNat_eq (by decide)]
  refine Nat.mul_pos ?_ (by omega)
  rcases depthOf_cases (fieldAt ops 5 1) with h | h | h | h <;> omega

/-! ### The checks (R90, R111) -/

theorem mem_allRoutes (q : RouteId) : q ∈ allRoutes := by
  revert q
  decide

/-- R89, R90: another route that is not FREE holds the stream. -/
theorem streamElsewhere_iff (r : RouteId) (stream : BitVec 16) : s.streamElsewhere r stream = true ↔
    ∃ q k, q ≠ r ∧ (s.route q).config = some k ∧ (s.route q).state ≠ .free ∧ k.stream = stream := by
  unfold State.streamElsewhere
  rw [List.any_eq_true]
  constructor
  · rintro ⟨q, -, hq⟩
    cases hc : (s.route q).config with
    | none => simp [hc] at hq
    | some k =>
      simp only [hc, Bool.and_eq_true, bne_iff_ne, beq_iff_eq] at hq
      exact ⟨q, k, hq.1.1, hc, hq.1.2, hq.2⟩
  · rintro ⟨q, k, hne, hc, hs, hstream⟩
    exact ⟨q, mem_allRoutes q, by simp [hc, hne, hs, hstream]⟩

theorem inUse_iff (g : GroupSlot) : g.inUse = true ↔ g.tag ≠ 0 := by
  simp [GroupSlot.inUse]

/-- R111: the search gives the lowest run of free pages. -/
theorem firstFit_lowest {pages : List (Option RouteId)} {len p : Nat} (hlen : 0 < len) (fits : Fits pages len p)
    (lowest : ∀ q, q < p → ¬ Fits pages len q) : firstFit len pages 0 0 = some p := by
  have found := firstFit_spec len pages hlen
  cases h : firstFit len pages 0 0 with
  | none =>
    rw [h] at found
    exact absurd fits (found p)
  | some q =>
    rw [h] at found
    obtain ⟨fitsq, lowq⟩ := found
    have le : ¬ q < p := fun hq => lowest q hq fitsq
    have ge : ¬ p < q := fun hp => lowq p hp fits
    exact congrArg some (by omega)

theorem firstFit_full {pages : List (Option RouteId)} {len : Nat} (hlen : 0 < len) (full : ∀ q, ¬ Fits pages len q) :
    firstFit len pages 0 0 = none := by
  have found := firstFit_spec len pages hlen
  cases h : firstFit len pages 0 0 with
  | none => rfl
  | some q =>
    rw [h] at found
    exact absurd found.1 (full q)

/-- The run that fits nowhere inside the store fits nowhere at all. -/
theorem not_fits_of_inside {pages : List (Option RouteId)} {len : Nat} (hlen : 0 < len)
    (h : ∀ p, p + len ≤ pages.length → ∃ k, k < len ∧ pages[p + k]? ≠ some none) (q : Nat) : ¬ Fits pages len q := fun fits => by
  obtain ⟨k, hk, bad⟩ := h q (fits.inside hlen)
  exact bad (fits k hk)

/-- R90: the checks on the state, in order, behind the index checks. -/
theorem routeArmItem_checks {r : RouteId} {c : RouteConfig} (hops : routeArmOperands ops = some (r, c)) : routeArmItem ops s =
    if (s.route r).state ≠ .free then s.finishItem .refusedState []
    else if (s.slot c.slot).tag = 0 then s.finishItem .refusedState []
    else if c.mode = .source ∧ (s.slot c.slot).state ≠ .leading then s.finishItem .refusedState []
    else if s.streamElsewhere r c.stream then s.finishItem .refusedInUse []
    else match firstFit (c.depth * c.slotPages) s.store.pages 0 0 with
      | none => s.finishItem .refusedSpace []
      | some p => (s.armRoute r { c with firstPage := p }).finishItem .done { c with firstPage := p : RouteConfig }.armReport := by
  have unused : (!(s.slot c.slot).inUse) = true ↔ (s.slot c.slot).tag = 0 := by simp [GroupSlot.inUse]
  unfold routeArmItem
  rw [hops]
  simp only [unused] <;> rfl

end Sys2Proof.Machine

namespace Sys2Proof.Proofs

open Sys2Proof.Machine Sys2Proof.Safety

/-- Settles O47: the checks in order, and the lowest run that fits. -/
theorem routeArmDecided : Obligations.RouteArmDecided := by
  unfold Obligations.RouteArmDecided
  refine ⟨fun s ops rest h => ?_, fun s ops rest r c p h hops free used leads alone fits lowest => ?_⟩
  · intro refuse
    have checks : ∀ st, refuse st ↔ routeArmItem ops s = s.finishItem st [] := fun st => by
      unfold refuse
      rw [exec_routeArm h]
      exact ⟨fun h => by injection h, congrArg _⟩
    refine ⟨fun hn => by rw [checks, routeArmItem, hn], routeArmOperands_none, fun r c hops => ?_⟩
    intro elsewhere
    have len := (routeArmOperands_from hops).length_pos
    have mode : c.mode = .sink ∨ (s.slot c.slot).state = .leading → ¬ (c.mode = .source ∧ (s.slot c.slot).state ≠ .leading) := by
      rintro (h | h) ⟨hm, hs⟩
      · rw [h] at hm
        cases hm
      · exact hs h
    simp only [checks, routeArmItem_checks hops]
    refine ⟨fun busy => if_pos busy, fun free unused => ?_, fun free used source follows => ?_,
      fun free used leads taken => ?_, fun free used leads alone full => ?_⟩
    · rw [if_neg (not_not.mpr free), if_pos unused]
    · rw [if_neg (not_not.mpr free), if_neg used, if_pos ⟨source, follows⟩]
    · rw [if_neg (not_not.mpr free), if_neg used, if_neg (mode leads)]
      exact if_pos ((streamElsewhere_iff _ _).mpr taken)
    · rw [if_neg (not_not.mpr free), if_neg used, if_neg (mode leads), firstFit_full len (not_fits_of_inside len full)]
      exact if_neg (mt (streamElsewhere_iff _ _).mp alone)
  · intro d
    have given := routeArmOperands_from hops
    have hlen : ops.length = 13 := h.length
    have source : ¬ (c.mode = .source ∧ (s.slot c.slot).state ≠ .leading) := by
      rintro ⟨hm, hs⟩
      rcases leads with h | h
      · rw [h] at hm
        cases hm
      · exact hs h
    have unheld : ¬ s.streamElsewhere r c.stream = true := fun held => by
      obtain ⟨q, k, hne, hc, hs, hstream⟩ := (streamElsewhere_iff _ _).mp held
      exact alone q k hne hc hs hstream
    have found : firstFit (c.depth * c.slotPages) s.store.pages 0 0 = some p :=
      firstFit_lowest given.length_pos fits fun q hq hfit => by
        obtain ⟨k, hk, bad⟩ := lowest q hq
        exact bad (hfit k hk)
    refine ⟨given.route, given.slot, given.mode, given.conceal, ?_, ?_, ?_, ?_, ?_, ?_⟩
    · rw [given.depth, fieldAt_one (by omega)]
      rfl
    · rw [given.slotPages, fieldAt_one (by omega), clampNat_eq (by decide)]
    · rw [given.concealLimit, ← given.depth, fieldAt_one (by omega), clampNat_eq (by decide)]
    · rw [given.lead, clampNat_eq (by decide)]
      rfl
    · have small : fieldAt ops 1 2 < 2 ^ 16 := by
        have b1 := (byteAt ops 1).isLt
        have b2 := (byteAt ops (1 + 1)).isLt
        rw [fieldAt_two (by omega)]
        omega
      rw [given.stream, BitVec.toNat_ofNat, Nat.mod_eq_of_lt small]
      rfl
    · rw [exec_routeArm h, routeArmItem_checks hops, if_neg (not_not.mpr free), if_neg used, if_neg source, if_neg unheld, found]
      have zero : ∀ q : RouteId, (State.reset.route q).counters = RouteCounters.zero := by decide
      have report : { c with firstPage := p : RouteConfig }.armReport =
          beBytes 2 p ++ beBytes 1 c.depth ++ beBytes 1 c.slotPages ++ beBytes 1 c.concealLimit ++ beBytes 4 (c.lead.getD 0) := by
        simp [RouteConfig.armReport, beBytes_one]
      rw [zero, ← report]
      rfl

end Sys2Proof.Proofs
end

section
/-! O48: ROUTE-DISARM (R102 to R104). -/

namespace Sys2Proof.Machine

open Sys2Proof.Safety

variable {s : State} {r : RouteId}

theorem exec_routeDisarm {ops : List Byte} {rest : List Item} (h : Executing .routeDisarm ops rest s) (now : Time) :
    exec (.routeDisarm now) s = .next (routeDisarmItem ops (s.clockTo now)) :=
  congrArg Host.Outcome.next (actAt_runItem h now routeDisarmItem)

/-! ### The lookup of a stream (R29) -/

theorem routeHolding_eq_none {ok : Route → Bool} {stream : BitVec 16} : s.routeHolding ok stream = none ↔
    ∀ q c, (s.route q).config = some c → ok (s.route q) = true → c.stream ≠ stream := by
  unfold State.routeHolding
  rw [List.findSome?_eq_none_iff]
  constructor
  · intro h q c hc hok hs
    have := h q (mem_allRoutes q)
    simp [hc, hok, hs] at this
  · intro h q _
    cases hc : (s.route q).config with
    | none => rfl
    | some c =>
      refine if_neg fun hq => ?_
      simp only [Bool.and_eq_true, beq_iff_eq] at hq
      exact h q c hc hq.1 hq.2

theorem routeHolding_alone {ok : Route → Bool} {c : RouteConfig} (hc : (s.route r).config = some c)
    (hok : ok (s.route r) = true) (alone : ∀ q c', ok (s.route q) = true → (s.route q).config = some c' → c'.stream = c.stream → q = r) :
    s.routeHolding ok c.stream = some (r, c) := by
  cases h : s.routeHolding ok c.stream with
  | none => exact absurd rfl (routeHolding_eq_none.mp h r c hc hok)
  | some x =>
    obtain ⟨q, c'⟩ := x
    obtain ⟨hc', hok', hs⟩ := routeHolding_some h
    obtain rfl := alone q c' hok' hc' hs
    rw [hc] at hc'
    cases hc'
    rfl

theorem routeHolding_handed {e : IngressEntry} {c : RouteConfig} (h : HandedTo e r c s) :
    s.routeHolding Route.taking (audioStream e.bytes) = some (r, c) := by
  rw [← h.stream]
  exact routeHolding_alone h.config ((taking_iff _).mpr h.taking) h.alone

/-! ### The hand-off of an AUDIO frame (R29, log entry 24) -/

theorem markHandOff_marked {e : IngressEntry} {queue : List IngressEntry} {c : RouteConfig} (hand : s.rx.hand = none)
    (oldest : s.rx.ingress = e :: queue) (complete : e.phase = .complete) (passes : Passes e s) (handed : HandedTo e r c s) :
    s.markHandOff r = { s with rx := { s.rx with ingress := { e with disarmed := true } :: queue } } := by
  unfold State.markHandOff
  rw [hand, oldest]
  exact if_pos ⟨complete, (isRouteUnits_iff e).mpr ⟨passes, handed.kind⟩, by rw [routeHolding_handed handed]; rfl⟩

theorem markHandOff_unmarked (h : s.rx.hand ≠ none ∨ ∀ e queue, s.rx.ingress = e :: queue → e.phase ≠ .complete ∨ ¬ Passes e s
    ∨ frameKindByte e.bytes ≠ 1 ∨ ∀ c, (s.route r).config = some c → c.stream ≠ audioStream e.bytes) : s.markHandOff r = s := by
  rcases markHandOff_cases (s := s) r with same | ⟨e, queue, c, hand, oldest, complete, passes, kind, found, -⟩
  · exact same
  · obtain ⟨config, -, stream⟩ := routeHolding_some found
    rcases h with h | h
    · exact absurd hand h
    · rcases h e queue oldest with h | h | h | h
      · exact absurd complete h
      · exact absurd passes h
      · exact absurd kind h
      · exact absurd stream (h c config)

theorem passes_clockTo {e : IngressEntry} (now : Time) (h : Passes e s) : Passes e (s.clockTo now) :=
  ⟨h.header, by rw [State.clockTo_pins]; exact h.addressed, h.undamaged, h.body⟩

theorem passes_of_clockTo {e : IngressEntry} {now : Time} (h : Passes e (s.clockTo now)) : Passes e s :=
  ⟨h.header, by simpa only [State.clockTo_pins] using h.addressed, h.undamaged, h.body⟩

theorem handedTo_clockTo {e : IngressEntry} {c : RouteConfig} (now : Time) (h : HandedTo e r c s) : HandedTo e r c (s.clockTo now) := by
  refine ⟨h.kind, ?_, h.stream, ?_, fun q c' => ?_⟩
  · rw [State.clockTo_route]
    exact h.config
  · rw [State.clockTo_route]
    exact h.taking
  · rw [State.clockTo_route]
    exact h.alone q c'

theorem clockTo_with (now : Time) : { s.clockTo now with lanes := s.lanes, routes := s.routes, store := s.store, rx := s.rx } =
    s.clockTo now := by
  unfold State.clockTo
  split <;> rfl

theorem markHandOff_idle (h : (s.route r).state = .free ∨ (s.route r).state = .draining) : s.markHandOff r = s := by
  rcases markHandOff_cases (s := s) r with same | ⟨e, queue, c, -, -, -, -, -, found, -⟩
  · exact same
  · obtain ⟨-, taking, -⟩ := routeHolding_some found
    rcases (taking_iff _).mp taking with h' | h' <;> rcases h with h | h <;> · rw [h] at h'; cases h'

theorem markHandOff_rx (r : RouteId) : ∃ queue, s.markHandOff r = { s with rx := { s.rx with ingress := queue } } ∧
    queue.tail = s.rx.ingress.tail ∧ (s.rx.hand ≠ none → queue = s.rx.ingress) := by
  rcases markHandOff_cases (s := s) r with same | ⟨e, queue, c, hand, oldest, -, -, -, -, marked⟩
  · exact ⟨s.rx.ingress, same, rfl, fun _ => rfl⟩
  · exact ⟨_, marked, by rw [oldest]; rfl, fun h => absurd hand h⟩

/-! ### The lanes of a route that is disarmed (R102) -/

/-- R102: the route is DRAINING and its lanes have left by their states. -/
def State.drainLanes (r : RouteId) (s : State) : State :=
  allLanes.foldl (fun s i => if (s.lane i).route = some r then s.drainLane i else s)
    (s.modRoute r (fun t => { t with state := .draining }))

theorem disarm_taking (h : (s.route r).taking = true) : s.disarm r = ((s.drainLanes r).abandonFor r).tryFree r := if_pos h

theorem disarm_other (h : (s.route r).taking = false) : s.disarm r = s := if_neg (by rw [h]; simp)

theorem drainLanes_run : CauseRun afterStopCause (fun i => (s.lane i).route = some r)
    (s.setRoute r { s.route r with state := .draining }) (s.drainLanes r) := by
  refine (foldl_causeRun (left := fun i => (s.lane i).route = some r) drainLane_cause allLanes _ allLanes_nodup
    fun i _ u hu => ⟨fun hl => if_pos ?_, fun hl => if_neg ?_⟩).congr fun i => by simp [mem_allLanes]
  · rw [hu.lane]
    exact hl
  · rw [hu.lane]
    exact hl

/-- R102: a lane stays bound to the route it leaves exactly where it ramps down. -/
theorem afterStopCause_route {l : Lane} (now : Time) (legal : laneLegal l = true) (hr : l.route = some r) :
    (afterStopCause now l).route = some r ↔ l.state = .play ∨ l.state = .rampdown := by
  unfold afterStopCause
  cases hs : l.state with
  | stop =>
    unfold laneLegal at legal
    rw [hs, hr] at legal
    simp at legal
  | wait => simp
  | prime => simp
  | play => simpa [rampingDown] using hr
  | rampdown => simpa using hr

/-- R102: what has become of the part once the lanes of the route have left. -/
structure Drained (r : RouteId) (s u : State) : Prop where
  lane : ∀ i, u.lane i = if (s.lane i).route = some r then afterStopCause s.time.lmc (s.lane i) else s.lane i
  route_ne : ∀ q, q ≠ r → u.route q = s.route q
  own : u.route r = { s.route r with state := .draining, release := (u.route r).release, dir := (u.route r).dir }
  unprimed : (∀ i, (s.lane i).route = some r → (s.lane i).state ≠ .prime) → u.route r = { s.route r with state := .draining }
  single : ∀ i, (s.lane i).route = some r → (s.lane i).state = .prime →
    (∀ j, j ≠ i → (s.lane j).route = some r → (s.lane j).state ≠ .prime) → ReleaseFollowed (u.holds r) (s.route r) (u.route r)
  rest : { u with lanes := s.lanes, routes := s.routes } = s

theorem drainLanes_drained (r : RouteId) : Drained r s (s.drainLanes r) := by
  obtain ⟨moved, stayed, ⟨others, single, kept⟩, rest⟩ := drainLanes_run (s := s) (r := r)
  have own := State.setRoute_route_self s r { s.route r with state := .draining }
  refine ⟨fun i => ?_, fun q hq => ?_, ?_, fun unprimed => ?_, fun i hr hp alone => ?_, ?_⟩
  · split
    · next h => exact moved i h
    · next h => exact stayed i h
  · rw [others q fun i hr _ hr' => hq (Option.some.inj (hr'.symm.trans hr))]
    exact State.setRoute_route_ne s r q _ hq
  · rw [kept r, own]
  · rw [others r fun i hr hp => absurd hp (unprimed i hr), own]
  · have follows := single r i hr hp hr fun j hj hrj hpj => absurd hpj (alone j hj hrj)
    rw [own] at follows
    exact follows
  · exact (congrArg (fun t => { t with routes := s.routes }) rest :)

theorem Drained.hasLane {u : State} (h : Drained r s u) (legal : LanesLegal s) : u.hasLane r = true ↔
    ∃ i, (s.lane i).route = some r ∧ ((s.lane i).state = .play ∨ (s.lane i).state = .rampdown) := by
  rw [hasLane_iff]
  refine exists_congr fun i => ?_
  rw [h.lane]
  split
  · next hr => rw [afterStopCause_route _ (legal.record i) hr, and_iff_right hr]
  · next hr => exact iff_of_false hr fun hi => hr hi.1

/-! ### The placement of a route that is disarmed (R104) -/

theorem abandonFor_other (h : ∀ p, s.store.placement = some p → p.route ≠ r) : s.abandonFor r = s := by
  unfold State.abandonFor
  cases hp : s.store.placement with
  | none => rfl
  | some p => exact if_neg (h p hp)

theorem abandonFor_writing {p : Placement} {base : Nat} {bytes : List Byte} (hp : s.store.placement = some p) (hr : p.route = r)
    (hb : s.store.burst = some (.write base bytes)) :
    s.abandonFor r = { s with store := { s.store with placement := some { p with abandoned := true } } } := by
  unfold State.abandonFor
  rw [hp]
  dsimp only
  rw [if_pos hr, hb]

theorem abandonFor_dropped {p : Placement} (hp : s.store.placement = some p) (hr : p.route = r)
    (hb : ∀ base bytes, s.store.burst ≠ some (.write base bytes)) : s.abandonFor r = s.dropPlacement p := by
  unfold State.abandonFor
  rw [hp]
  dsimp only
  rw [if_pos hr]
  split
  · next base bytes h => exact absurd h (hb base bytes)
  · rfl

theorem dropPlacement_eq_of {p : Placement} (hr : p.route = r) : s.dropPlacement p =
    { s.setRoute r { s.route r with dir := (s.route r).dir.set p.index .invalid } with
      store := { s.store with placement := none }, rx := { s.rx with ingress := s.rx.ingress.tail, hand := none } } := by
  subst hr
  rfl

/-- R104: what an abandonment may change. -/
theorem abandonFor_frame (r : RouteId) : ∃ dir placement rx, s.abandonFor r =
    { s.setRoute r { s.route r with dir := dir } with store := { s.store with placement := placement }, rx := rx } := by
  by_cases other : ∀ p, s.store.placement = some p → p.route ≠ r
  · rw [abandonFor_other other]
    refine ⟨(s.route r).dir, s.store.placement, s.rx, ?_⟩
    have same : s.routes.set r.val s.routes[r] r.isLt = s.routes := by simp
    unfold State.setRoute State.route
    rw [same]
  · push Not at other
    obtain ⟨p, hp, hr⟩ := other
    by_cases writing : ∃ base bytes, s.store.burst = some (.write base bytes)
    · obtain ⟨base, bytes, hb⟩ := writing
      rw [abandonFor_writing hp hr hb]
      refine ⟨(s.route r).dir, some { p with abandoned := true }, s.rx, ?_⟩
      have same : s.routes.set r.val s.routes[r] r.isLt = s.routes := by simp
      unfold State.setRoute State.route
      rw [same]
    · rw [abandonFor_dropped hp hr fun base bytes hb => writing ⟨base, bytes, hb⟩, dropPlacement_eq_of hr]
      exact ⟨_, _, _, rfl⟩

theorem abandonFor_placing (r : RouteId) : (s.abandonFor r).placing r = true ↔
    (∃ base bytes, s.store.burst = some (.write base bytes)) ∧ ∃ p, s.store.placement = some p ∧ p.route = r := by
  by_cases other : ∀ p, s.store.placement = some p → p.route ≠ r
  · rw [abandonFor_other other, placing_iff]
    exact iff_of_false (fun ⟨p, hp, hr⟩ => other p hp hr) fun ⟨_, p, hp, hr⟩ => other p hp hr
  · push Not at other
    obtain ⟨p, hp, hr⟩ := other
    by_cases writing : ∃ base bytes, s.store.burst = some (.write base bytes)
    · obtain ⟨base, bytes, hb⟩ := writing
      rw [abandonFor_writing hp hr hb, placing_iff]
      exact iff_of_true ⟨_, rfl, hr⟩ ⟨⟨base, bytes, hb⟩, p, hp, hr⟩
    · rw [abandonFor_dropped hp hr fun base bytes hb => writing ⟨base, bytes, hb⟩, placing_iff]
      exact iff_of_false (fun ⟨q, hq, _⟩ => nomatch hq) fun h => writing h.1

/-- R104: a placement that is not dropped leaves the route as it is. -/
theorem abandonFor_route (h : (∃ base bytes, s.store.burst = some (.write base bytes)) ∨
    ∀ p, s.store.placement = some p → p.route ≠ r) : (s.abandonFor r).route r = s.route r := by
  by_cases other : ∀ p, s.store.placement = some p → p.route ≠ r
  · rw [abandonFor_other other]
  · obtain ⟨base, bytes, hb⟩ := h.resolve_right other
    push Not at other
    obtain ⟨p, hp, hr⟩ := other
    rw [abandonFor_writing hp hr hb]
    rfl

/-- R103, R112: the freeing of a route where no SLOT-PEEK waits on it. -/
theorem tryFree_unwaited (h : ∀ first count, s.mgmt.phase ≠ .storeWait r first count) :
    ∃ pages routes, s.tryFree r = { s with store := { s.store with pages := pages }, routes := routes } := by
  rcases tryFree_cases (s := s) r with ⟨-, -, -, freed⟩ | ⟨-, same⟩
  · obtain ⟨pages, routes, given⟩ := giveBack_eq (s := s) r
    rw [freed, freeRoute_eq, given, withdrawPeek_other (s := { s with store := { s.store with pages := pages }, routes := routes }) h]
    exact ⟨_, _, rfl⟩
  · exact ⟨s.store.pages, s.routes, same⟩

/-! ### The whole of a disarm -/

/-- R103, R104: what goes on holding the route: a lane that ramps down, or the write burst of its placement. -/
def stillHeld (r : RouteId) (s : State) : Prop :=
  (∃ i, (s.lane i).route = some r ∧ ((s.lane i).state = .play ∨ (s.lane i).state = .rampdown)) ∨
    ((∃ base bytes, s.store.burst = some (.write base bytes)) ∧ ∃ p, s.store.placement = some p ∧ p.route = r)

/-- R102 to R104: a disarm, in two parts: the lanes' leaving, and what becomes of placement and route. -/
structure Disarmed (r : RouteId) (s u t : State) : Prop where
  drained : Drained r s u
  held : stillHeld r s → t = u.abandonFor r
  freed : ¬ stillHeld r s → t.route r = { State.reset.route r with counters := (s.route r).counters } ∧
    ∀ c, (s.route r).config = some c → t.store.pages = fillRun s.store.pages c.firstPage (c.depth * c.slotPages) none
  frame : ∃ pages routes, t = { u.abandonFor r with store := { (u.abandonFor r).store with pages := pages }, routes := routes }
  route_ne : ∀ q, q ≠ r → t.route q = s.route q

theorem Drained.store {u : State} (h : Drained r s u) : u.store = s.store := (congrArg State.store h.rest :)
theorem Drained.rx {u : State} (h : Drained r s u) : u.rx = s.rx := (congrArg State.rx h.rest :)
theorem Drained.mgmt {u : State} (h : Drained r s u) : u.mgmt = s.mgmt := (congrArg State.mgmt h.rest :)

theorem disarm_disarmed (taking : (s.route r).taking = true) (legal : LanesLegal s) (running : s.mgmt.phase = .running) :
    Disarmed r s (s.drainLanes r) (s.disarm r) := by
  rw [disarm_taking taking]
  have drained := drainLanes_drained (s := s) r
  generalize s.drainLanes r = u at drained ⊢
  obtain ⟨dir, placement, rx, frame⟩ := abandonFor_frame (s := u) r
  have own : (u.abandonFor r).route r = { u.route r with dir := dir } := by
    rw [frame]
    exact State.setRoute_route_self u r _
  have other : ∀ q, q ≠ r → (u.abandonFor r).route q = s.route q := fun q hq => by
    rw [frame, ← drained.route_ne q hq]
    exact State.setRoute_route_ne u r q _ hq
  have state : ((u.abandonFor r).route r).state = .draining := by rw [own, drained.own]
  have holding : (u.abandonFor r).hasLane r = false ∧ (u.abandonFor r).placing r = false ↔ ¬ stillHeld r s := by
    have lanes : (u.abandonFor r).hasLane r = u.hasLane r := by
      rw [frame]
      rfl
    rw [← Bool.not_eq_true, ← Bool.not_eq_true, lanes, drained.hasLane legal, abandonFor_placing, drained.store]
    exact not_or.symm
  have unwaited : ∀ first count, (u.abandonFor r).mgmt.phase ≠ .storeWait r first count := fun first count => by
    have mgmt : (u.abandonFor r).mgmt = u.mgmt := by
      rw [frame]
      rfl
    rw [mgmt, drained.mgmt, running]
    exact fun h => nomatch h
  refine ⟨drained, fun held => ?_, fun free => ?_, tryFree_unwaited unwaited, fun q hq => ?_⟩
  · exact tryFree_stays fun h => holding.mp h.2 held
  · have freed := holding.mpr free
    rw [tryFree_frees ⟨state, freed⟩]
    refine ⟨?_, fun c hc => ?_⟩
    · have blank : ∀ q : RouteId, State.reset.route q = Route.unused := by decide
      rw [(freeRoute_spec r).1, own, drained.own, blank]
    · have pages := (freeRoute_freed (s := u.abandonFor r) (r := r) (c := c) (by rw [own, drained.own]; exact hc)).pages
      rw [pages, frame, drained.store]
  · rw [tryFree_route_ne hq, other q hq]

end Sys2Proof.Machine

namespace Sys2Proof.Proofs

open Sys2Proof.Machine Sys2Proof.Safety

/-- Settles O48: the lanes leave, the placement is abandoned, and the route is freed unless a lane or a burst still holds it. -/
theorem routeDisarmed : Obligations.RouteDisarmed := by
  unfold Obligations.RouteDisarmed
  intro s now ops rest h legal
  rw [exec_routeDisarm h]
  refine ⟨fun bad => by rw [routeDisarmItem, routeOf_none bad], fun r hr => ?_⟩
  have item : ∀ u, routeDisarmItem ops u = ((u.markHandOff r).disarm r).finishItem .done [] := fun u => by
    rw [routeDisarmItem, routeOf_some hr]
  obtain ⟨queue, marked, tail, kept⟩ := markHandOff_rx (s := s.clockTo now) r
  rw [State.clockTo_rx] at marked tail kept
  rw [item]
  have route : ∀ q, ((s.clockTo now).markHandOff r).route q = s.route q := fun q => by rw [marked]; exact State.clockTo_route s now q
  have lane : ∀ i, ((s.clockTo now).markHandOff r).lane i = s.lane i := fun i => by rw [marked]; exact State.clockTo_lane s now i
  have store : ((s.clockTo now).markHandOff r).store = s.store := by rw [marked]; exact State.clockTo_store s now
  have mgmt : ((s.clockTo now).markHandOff r).mgmt = s.mgmt := by rw [marked]; exact State.clockTo_mgmt s now
  have rx : ((s.clockTo now).markHandOff r).rx = { s.rx with ingress := queue } := by rw [marked]
  have receives : ∀ e queue' c, s.rx.hand = none → s.rx.ingress = e :: queue' → e.phase = .complete → Passes e s →
      HandedTo e r c s → { s.rx with ingress := queue } = { s.rx with ingress := { e with disarmed := true } :: queue' } := by
    intro e queue' c hand oldest complete passes handed
    rw [← rx, markHandOff_marked (by rw [State.clockTo_rx]; exact hand) (by rw [State.clockTo_rx]; exact oldest) complete
      (passes_clockTo now passes) (handedTo_clockTo now handed)]
    exact congrArg (fun x : Receiver => { x with ingress := { e with disarmed := true } :: queue' }) (State.clockTo_rx s now)
  have ignores : (s.rx.hand ≠ none ∨ ∀ e queue', s.rx.ingress = e :: queue' → e.phase ≠ .complete ∨ ¬ Passes e s
      ∨ frameKindByte e.bytes ≠ 1 ∨ ∀ c, (s.route r).config = some c → c.stream ≠ audioStream e.bytes) →
      { s.rx with ingress := queue } = s.rx := by
    intro hn
    rw [← rx, markHandOff_unmarked, State.clockTo_rx]
    rw [State.clockTo_rx, State.clockTo_route]
    exact hn.imp_right fun hn e queue' oldest => (hn e queue' oldest).imp_right (Or.imp_left (mt passes_of_clockTo))
  have lmc : ((s.clockTo now).markHandOff r).time.lmc = now := by rw [marked]; exact State.clockTo_lmc s now
  have legal' : LanesLegal ((s.clockTo now).markHandOff r) :=
    ⟨fun i => by rw [lane]; exact legal.record i, fun i q => by rw [lane, route]; exact legal.bound i q⟩
  refine ⟨fun idle => ?_, fun taking => ?_⟩
  · have off : (s.route r).taking = false := by
      rw [← Bool.not_eq_true, taking_iff]
      rintro (h | h) <;> rcases idle with h' | h' <;> · rw [h] at h'; cases h'
    rw [disarm_other (by rw [route]; exact off), markHandOff_idle (by rw [State.clockTo_route]; exact idle)]
  obtain ⟨drained, held, freed, frame, route_ne⟩ :=
    disarm_disarmed (by rw [route]; exact (taking_iff _).mpr taking) legal' (by rw [mgmt]; exact h.running)
  have ustore := drained.store.trans store
  have urx := drained.rx.trans rx
  have rest := drained.rest
  obtain ⟨lanes, -, own, unprimed, single, -⟩ := drained
  generalize ((s.clockTo now).markHandOff r).drainLanes r = u at *
  generalize ((s.clockTo now).markHandOff r).disarm r = t at *
  simp only [stillHeld, lane, route, lmc, store] at held freed lanes route_ne own unprimed single
  obtain ⟨pages, routes, frame⟩ := frame
  obtain ⟨dir, placement, rx', abandoned⟩ := abandonFor_frame (s := u) r
  have placement_eq : t.store.placement = (u.abandonFor r).store.placement := by rw [frame]
  have rx_eq : t.rx = (u.abandonFor r).rx := by rw [frame]
  refine ⟨t, rfl, ?_, fun none => ?_, fun i => ?_, route_ne, ?_, ?_, ?_⟩
  · intro playing writing held'
    refine ⟨fun hh => ⟨?_, { s.route r with release := (u.route r).release, dir := (u.route r).dir }, rfl, fun alone => ?_,
      fun i hi hp alone => ?_, fun p hp hpr hw => ?_, fun hn => ?_⟩, fun hn c hc => ⟨(freed hn).1, (freed hn).2 c hc⟩,
      fun p hp hpr => ⟨fun hw => ?_, fun hw => ?_⟩⟩
    · rw [held hh, abandoned]
      exact (congrArg Store.pages ustore :)
    · rw [unprimed alone]
    · have holds : t.holds r = u.holds r := by
        rw [held hh, abandoned]
        rfl
      rw [holds]
      exact single i hi hp alone
    · rw [held hh, abandonFor_dropped (by rw [ustore]; exact hp) hpr fun base bytes hb => hw ⟨base, bytes, ustore ▸ hb⟩,
        dropPlacement_eq_of hpr]
      refine (State.setRoute_route_self u r _).trans ?_
      rw [own]
    · rw [held hh, abandonFor_route (ustore ▸ hn), own]
    · have dropped := abandonFor_dropped (s := u) (by rw [ustore]; exact hp) hpr fun base bytes hb =>
        hw ⟨base, bytes, ustore ▸ hb⟩
      rw [placement_eq, rx_eq, dropped, dropPlacement_eq_of hpr, urx]
      exact ⟨rfl, by rw [← tail]⟩
    · obtain ⟨base, bytes, hb⟩ := hw
      have marks := abandonFor_writing (s := u) (by rw [ustore]; exact hp) hpr (by rw [ustore]; exact hb)
      rw [placement_eq, rx_eq, marks, urx]
      exact ⟨rfl, fun hand => by rw [kept hand]⟩
  · have same := abandonFor_other (s := u) (r := r) (by rw [ustore]; exact none)
    rw [placement_eq, rx_eq, same, ustore]
    refine ⟨rfl, fun e queue' c hand oldest complete passes handed => ?_, fun hn => ?_⟩
    · rw [urx]
      exact receives e queue' c hand oldest complete passes handed
    · rw [urx]
      exact ignores hn
  · rw [← lanes, frame, abandoned]
    rfl
  · by_cases hh : (∃ i, (s.lane i).route = some r ∧ ((s.lane i).state = .play ∨ (s.lane i).state = .rampdown)) ∨
        (∃ base bytes, s.store.burst = some (.write base bytes)) ∧ ∃ p, s.store.placement = some p ∧ p.route = r
    · rw [held hh, abandoned]
      refine (congrArg Route.counters (State.setRoute_route_self u r _)).trans ?_
      exact (congrArg Route.counters own :)
    · rw [(freed hh).1]
  · rw [frame, abandoned, ustore]
  · rw [frame, abandoned, ← clockTo_with now]
    exact congrArg (fun x : State => { x with lanes := s.lanes, routes := s.routes, store := s.store, rx := s.rx }) (rest.trans marked)

end Sys2Proof.Proofs
end

section
/-! O27: one frame entry of a lane (R142, R143, R152 to R157, R162). -/

namespace Sys2Proof.Machine

open Sys2Proof.Safety

variable {s : State} {i : LaneId} {r : RouteId} {c : RouteConfig} {f : CurrentFrame}

/-! ### A staged change at the entry -/

/-- R162: the landing leaves binding and current frame. -/
theorem stagedLanded_kept (r : RouteId) (s : State) (l : Lane) :
    (stagedLanded r s l).route = l.route ∧ (stagedLanded r s l).current = l.current ∧
      (stagedLanded r s l).playhead = l.playhead := by
  unfold stagedLanded
  split
  · split
    · exact ⟨rfl, rfl, rfl⟩
    · dsimp only
      split <;> exact ⟨rfl, rfl, rfl⟩
  · exact ⟨rfl, rfl, rfl⟩

theorem stagedLanded_playing (r : RouteId) (s : State) {l : Lane} (h : l.state = .play ∨ l.state = .rampdown) :
    (stagedLanded r s l).state = .play ∨ (stagedLanded r s l).state = .rampdown := by
  unfold stagedLanded
  split
  · split
    · exact h
    · dsimp only
      split
      · exact .inr rfl
      · exact h
  · exact h

/-! ### What an entry leaves -/

/-- The lane takes a record, its route counters, the part conditions; then the release point follows. -/
def State.entered (i : LaneId) (r : RouteId) (l : Lane) (k : RouteCounters) (cond : Conditions) (s : State) : State :=
  ({ (s.setLane i l).setRoute r { s.route r with counters := k } with cond := cond } : State).recompute r

/-- What the form of an entry says of the part. -/
structure EntryLeft (i : LaneId) (r : RouteId) (l : Lane) (k : RouteCounters) (cond : Conditions) (s t : State) : Prop where
  lane : t.lane i = l
  cond : t.cond = cond
  counters : (t.route r).counters = k
  followed : ReleaseFollowed (t.holds r) (s.route r) (t.route r)
  route : t.route r = { s.route r with counters := (t.route r).counters, release := (t.route r).release, dir := (t.route r).dir }
  route_ne : ∀ q, q ≠ r → t.route q = s.route q
  lane_ne : ∀ j, j ≠ i → t.lane j = s.lane j
  rest : { t with lanes := s.lanes, routes := s.routes, cond := s.cond } = s

theorem entered_left (i : LaneId) (r : RouteId) (l : Lane) (k : RouteCounters) (cond : Conditions) :
    EntryLeft i r l k cond s (s.entered i r l k cond) := by
  obtain ⟨release, dir, frame⟩ :=
    recompute_frame (s := { (s.setLane i l).setRoute r { s.route r with counters := k } with cond := cond }) r
  have followed := recompute_followed (s := { (s.setLane i l).setRoute r { s.route r with counters := k } with cond := cond }) r
  have before : ({ (s.setLane i l).setRoute r { s.route r with counters := k } with cond := cond } : State).route r =
      { s.route r with counters := k } := State.setRoute_route_self (s.setLane i l) r _
  rw [before] at frame followed
  have own : (s.entered i r l k cond).route r = { s.route r with counters := k, release := release, dir := dir } := by
    unfold State.entered
    rw [frame]
    exact State.setRoute_route_self _ r _
  refine ⟨?_, ?_, by rw [own], ?_, by rw [own], fun q hq => ?_, fun j hj => ?_, ?_⟩
  · unfold State.entered
    rw [frame]
    exact State.setLane_lane_self s i l
  · unfold State.entered
    rw [frame]
    rfl
  · rw [State.entered, holds_recompute]
    exact followed
  · unfold State.entered
    rw [frame]
    refine (State.setRoute_route_ne _ r q _ hq).trans ?_
    exact State.setRoute_route_ne (s.setLane i l) r q _ hq
  · unfold State.entered
    rw [frame]
    exact State.setLane_lane_ne s i j l hj
  · unfold State.entered
    rw [frame]
    rfl

/-- R152: the conditions with more of them present. -/
def Conditions.with (raised : BitVec 32) (x : Conditions) : Conditions := { x with present := x.present ||| raised }

/-- R152: the counters with one more frame concealed. -/
def RouteCounters.concealedOne (k : RouteCounters) : RouteCounters := { k with concealed := countUp k.concealed }

theorem modLane_enter_entered (l : Lane) (g : StoredFrame) :
    ((s.setLane i l).modLane i (Lane.enter g)).recompute r = s.entered i r (entering g l) (s.route r).counters s.cond := by
  have same : s.routes.set r.val s.routes[r] r.isLt = s.routes := by simp
  unfold State.entered State.modLane
  rw [State.setLane_lane_self, enter_eq]
  congr 1
  simp only [State.setLane, State.setRoute, State.route, Vector.set_set]
  exact congrArg (fun routes => { s with lanes := s.lanes.set i.val (entering g l) i.isLt, routes }) same.symm

theorem concealNext_entered (l : Lane) : (s.setLane i l).concealNext i r c f =
    s.entered i r (concealing c f l) (s.route r).counters.concealedOne (s.cond.with (Condition.mask .concealed)) := by
  unfold State.entered State.concealNext State.modLane
  rw [State.setLane_lane_self, conceal_eq]
  congr 1
  simp [State.setLane, State.bump, State.modRoute, State.setRoute, State.route, State.raise, Conditions.with,
    RouteCounters.concealedOne]

theorem starve_entered (l : Lane) : ((s.setLane i l).raise .starved).concealNext i r c f =
    s.entered i r (concealing c f l) (s.route r).counters.concealedOne
      (s.cond.with (Condition.mask .starved ||| Condition.mask .concealed)) := by
  have h := concealNext_entered (s := s.raise .starved) (i := i) (r := r) (c := c) (f := f) l
  refine Eq.trans h ?_
  unfold State.entered
  congr 1
  simp [State.setLane, State.setRoute, State.route, State.raise, Conditions.with, BitVec.or_assoc]

theorem modLane_rampDown (l : Lane) : (s.setLane i l).modLane i (Lane.rampDown .wait) = s.setLane i (rampingDown .wait l) := by
  rw [State.modLane, State.setLane_lane_self, rampDown_eq]
  simp [State.setLane]

/-! ### The entry -/

/-- R142: the entry by the class of the next frame. -/
theorem frameEntry_of (hr : (s.lane i).route = some r) (hc : (s.route r).config = some c) (hf : (s.lane i).current = some f) :
    s.frameEntry i =
      match classifyNext (s.route r) c f, (stagedLanded r s (s.lane i)).state with
      | .continuous g, _ => ((s.setLane i (stagedLanded r s (s.lane i))).modLane i (Lane.enter g)).recompute r
      | .discontinuous, .play =>
        ((s.setLane i (stagedLanded r s (s.lane i))).modLane i (Lane.rampDown .wait)).concealNext i r c f
      | .absent, .play =>
        if (stagedLanded r s (s.lane i)).concealedRun < c.concealLimit then
          (s.setLane i (stagedLanded r s (s.lane i))).concealNext i r c f
        else (((s.setLane i (stagedLanded r s (s.lane i))).modLane i (Lane.rampDown .wait)).raise .starved).concealNext i r c f
      | _, _ => (s.setLane i (stagedLanded r s (s.lane i))).concealNext i r c f := by
  obtain ⟨route, current, -⟩ := stagedLanded_kept r s (s.lane i)
  have lr : (s.setLane i (stagedLanded r s (s.lane i))).laneRoute i = some (r, c) := by
    unfold State.laneRoute
    rw [State.setLane_lane_self, route, hr]
    dsimp only
    rw [State.setLane_route, hc]
    rfl
  unfold State.frameEntry
  rw [landAtEntry_eq hr]
  dsimp only
  rw [lr, State.setLane_lane_self, current, hf]
  rfl

variable (hr : (s.lane i).route = some r) (hc : (s.route r).config = some c) (hf : (s.lane i).current = some f)

include hr hc hf

theorem frameEntry_continuous {g : StoredFrame} (h : continuousNext (s.route r) c f = some g) :
    s.frameEntry i = s.entered i r (entering g (stagedLanded r s (s.lane i))) (s.route r).counters s.cond := by
  rw [frameEntry_of hr hc hf, (classifyNext_continuous _ _ _ _).mpr h]
  exact modLane_enter_entered _ g

theorem frameEntry_discontinuous (hs : (s.lane i).state = .play ∨ (s.lane i).state = .rampdown)
    (h : discontinuousNext (s.route r) c f) :
    s.frameEntry i = s.entered i r
      (concealing c f (if (stagedLanded r s (s.lane i)).state = .play then rampingDown .wait (stagedLanded r s (s.lane i))
        else stagedLanded r s (s.lane i)))
      (s.route r).counters.concealedOne (s.cond.with (Condition.mask .concealed)) := by
  rw [frameEntry_of hr hc hf, (classifyNext_discontinuous _ _ _).mpr h]
  rcases stagedLanded_playing r s hs with hl | hl
  · rw [hl, if_pos rfl]
    exact (congrArg (State.concealNext i r c f) (modLane_rampDown _)).trans (concealNext_entered _)
  · rw [hl, if_neg (show ¬ LaneState.rampdown = .play by decide)]
    exact concealNext_entered _

theorem frameEntry_starves (h : classifyNext (s.route r) c f = .absent) (play : (stagedLanded r s (s.lane i)).state = .play)
    (run : c.concealLimit ≤ (stagedLanded r s (s.lane i)).concealedRun) :
    s.frameEntry i = s.entered i r (concealing c f (rampingDown .wait (stagedLanded r s (s.lane i))))
      (s.route r).counters.concealedOne (s.cond.with (Condition.mask .starved ||| Condition.mask .concealed)) := by
  rw [frameEntry_of hr hc hf, h, play]
  refine (if_neg (by omega)).trans ?_
  exact (congrArg (fun u => (State.raise .starved u).concealNext i r c f) (modLane_rampDown _)).trans (starve_entered _)

theorem frameEntry_absent (hs : (s.lane i).state = .play ∨ (s.lane i).state = .rampdown)
    (h : classifyNext (s.route r) c f = .absent)
    (lasts : ¬ ((stagedLanded r s (s.lane i)).state = .play ∧ c.concealLimit ≤ (stagedLanded r s (s.lane i)).concealedRun)) :
    s.frameEntry i = s.entered i r (concealing c f (stagedLanded r s (s.lane i)))
      (s.route r).counters.concealedOne (s.cond.with (Condition.mask .concealed)) := by
  rw [frameEntry_of hr hc hf, h]
  rcases stagedLanded_playing r s hs with hl | hl
  · rw [hl]
    exact (if_pos (Nat.lt_of_not_le fun run => lasts ⟨hl, run⟩)).trans (concealNext_entered _)
  · rw [hl]
    exact concealNext_entered _

/-- Every entry has the one form. -/
theorem frameEntry_entered (hs : (s.lane i).state = .play ∨ (s.lane i).state = .rampdown) :
    ∃ l k cond, s.frameEntry i = s.entered i r l k cond := by
  cases h : classifyNext (s.route r) c f with
  | continuous g => exact ⟨_, _, _, frameEntry_continuous hr hc hf ((classifyNext_continuous _ _ _ _).mp h)⟩
  | discontinuous => exact ⟨_, _, _, frameEntry_discontinuous hr hc hf hs ((classifyNext_discontinuous _ _ _).mp h)⟩
  | absent =>
    by_cases starves : (stagedLanded r s (s.lane i)).state = .play ∧
        c.concealLimit ≤ (stagedLanded r s (s.lane i)).concealedRun
    · exact ⟨_, _, _, frameEntry_starves hr hc hf h starves.1 starves.2⟩
    · exact ⟨_, _, _, frameEntry_absent hr hc hf hs h starves⟩

end Sys2Proof.Machine

namespace Sys2Proof.Proofs

open Sys2Proof.Machine Sys2Proof.Safety

/-- Settles O27, by the class of the next frame. -/
theorem frameEntryMade : Obligations.FrameEntryMade := by
  unfold Obligations.FrameEntryMade
  intro s i r c f hr hc hf hs t l counted with' starves
  obtain ⟨l', k, cond, made⟩ := frameEntry_entered hr hc hf hs
  obtain ⟨-, -, -, followed, route, route_ne, lane_ne, rest⟩ := entered_left (s := s) i r l' k cond
  rw [← made] at followed route route_ne lane_ne rest
  have left {l' k cond} (h : s.frameEntry i = s.entered i r l' k cond) :
      t.lane i = l' ∧ t.cond = cond ∧ (t.route r).counters = k := by
    have e := entered_left (s := s) i r l' k cond
    rw [← h] at e
    exact ⟨e.lane, e.cond, e.counters⟩
  refine ⟨fun g h => left (frameEntry_continuous hr hc hf h), fun h => left (frameEntry_discontinuous hr hc hf hs h),
    fun none unbroken => ?_, followed, route, route_ne, lane_ne, rest⟩
  have absent := (classifyNext_absent _ _ _).mpr ⟨none, unbroken⟩
  by_cases h : starves
  · obtain ⟨lane, raised, count⟩ := left (frameEntry_starves hr hc hf absent h.1 h.2)
    exact ⟨fun _ => ⟨lane, raised⟩, fun hn => absurd h hn, count⟩
  · obtain ⟨lane, raised, count⟩ := left (frameEntry_absent hr hc hf hs absent h)
    exact ⟨fun hy => absurd hy h, fun _ => ⟨lane, raised⟩, count⟩

end Sys2Proof.Proofs
end

section
/-! The fields of an AUDIO frame, the admission of a frame and the placement decision (R21, R29, R93 to R95, R109, R117 to R119). -/

namespace Sys2Proof.Machine

open Sys2Proof.Safety

variable {s : State} {e : IngressEntry} {rest : List IngressEntry} {r : RouteId} {c : RouteConfig}

/-! ### The fields (R21) -/

/-- One byte more, behind a number. -/
theorem ofNat_append (w n : Nat) (b : Byte) : BitVec.ofNat (w + 8) (n * 256 + b.toNat) = BitVec.ofNat w n ++ b := by
  refine BitVec.eq_of_toNat_eq ?_
  have hb := b.isLt
  rw [BitVec.toNat_append, BitVec.toNat_ofNat, BitVec.toNat_ofNat, ← Nat.shiftLeft_add_eq_or_of_lt hb, Nat.shiftLeft_eq,
    Nat.pow_add]
  have key := Nat.mod_mul_left_div_self (n * 256 + b.toNat) 256 (2 ^ w)
  have low : (n * 256 + b.toNat) % (2 ^ w * 2 ^ 8) % 2 ^ 8 = b.toNat := by
    rw [Nat.mod_mul_left_mod]
    omega
  have high : (n * 256 + b.toNat) % (2 ^ w * 2 ^ 8) / 2 ^ 8 = n % 2 ^ w := by
    rw [Nat.mod_mul_left_div_self]
    congr 1
    omega
  have split := Nat.div_add_mod ((n * 256 + b.toNat) % (2 ^ w * 2 ^ 8)) (2 ^ 8)
  rw [low, high] at split
  omega

theorem ofNat_append_of {w n : Nat} {x : BitVec w} (h : BitVec.ofNat w n = x) (b : Byte) :
    BitVec.ofNat (w + 8) (n * 256 + b.toNat) = x ++ b := h ▸ ofNat_append w n b

theorem ofNat_bytes_two (a b : Byte) : BitVec.ofNat 16 (a.toNat * 256 + b.toNat) = a ++ b :=
  (ofNat_append 8 a.toNat b).trans (by rw [BitVec.ofNat_toNat, BitVec.setWidth_eq])

theorem fieldAt_six {bs : List Byte} {k : Nat} (h : k + 5 < bs.length) : fieldAt bs k 6 =
    ((((((byteAt bs k).toNat * 256 + (byteAt bs (k + 1)).toNat) * 256 + (byteAt bs (k + 2)).toNat) * 256
      + (byteAt bs (k + 3)).toNat) * 256 + (byteAt bs (k + 4)).toNat) * 256 + (byteAt bs (k + 5)).toNat) := by
  simp only [fieldAt, take_drop_succ (show k < bs.length by omega), take_drop_succ (show k + 1 < bs.length by omega),
    take_drop_succ (show k + 2 < bs.length by omega), take_drop_succ (show k + 3 < bs.length by omega),
    take_drop_succ (show k + 4 < bs.length by omega), take_drop_succ h, List.take_zero, beNat, List.foldl_cons, List.foldl_nil,
    Nat.zero_mul, Nat.zero_add]

theorem fieldAt_two_bytes {bs : List Byte} {k : Nat} (h : k + 1 < bs.length) :
    BitVec.ofNat 16 (fieldAt bs k 2) = byteAt bs k ++ byteAt bs (k + 1) := by
  rw [fieldAt_two h, ofNat_bytes_two]

theorem timeAt_bytes {bs : List Byte} {k : Nat} (h : k + 5 < bs.length) : timeAt bs k =
    byteAt bs k ++ byteAt bs (k + 1) ++ byteAt bs (k + 2) ++ byteAt bs (k + 3) ++ byteAt bs (k + 4) ++ byteAt bs (k + 5) := by
  rw [timeAt, fieldAt_six h]
  exact ofNat_append_of (ofNat_append_of (ofNat_append_of (ofNat_append_of (ofNat_bytes_two _ _) _) _) _) _

/-! ### The stored form (R109) -/

theorem byteAt_drop (bs : List Byte) (m p : Nat) : byteAt (bs.drop m) p = byteAt bs (m + p) := by
  simp [byteAt, List.getD_eq_getElem?_getD]

/-- R109: a value of the payload, as a number. -/
def payloadValue (wide : Bool) (payload : List Byte) (p : Nat) : Int :=
  if wide then (byteAt payload p ++ byteAt payload (p + 1) ++ byteAt payload (p + 2)).toInt
  else (byteAt payload p ++ byteAt payload (p + 1)).toInt * 256

/-- The bytes of a value, and of a sample time. -/
def valueWidth (wide : Bool) : Nat := if wide then 3 else 2
def timeSpan (stereo wide : Bool) : Nat := if stereo then 2 * valueWidth wide else valueWidth wide

theorem storedValue_toInt (wide : Bool) {bs : List Byte} (h : valueWidth wide ≤ bs.length) :
    (storedValue wide (bs.take (valueWidth wide))).toInt = payloadValue wide bs 0 := by
  cases wide with
  | true =>
    have h3 : 3 ≤ bs.length := h
    have bytes : beNat (bs.take 3) = ((byteAt bs 0).toNat * 256 + (byteAt bs 1).toNat) * 256 + (byteAt bs 2).toNat := by
      have := fieldAt_six (bs := bs.take 3 ++ [0, 0, 0]) (k := 0) (by simp; omega)
      rw [show bs.take 3 = (bs.drop 0).take 3 by simp, take_drop_succ (by omega), take_drop_succ (by omega),
        take_drop_succ (by omega)]
      simp [beNat]
    show (BitVec.ofNat 24 (beNat (bs.take 3))).toInt = _
    rw [bytes, show (24 : Nat) = 16 + 8 from rfl, ofNat_append 16, ofNat_bytes_two]
    rfl
  | false =>
    have h2 : 2 ≤ bs.length := h
    have bytes : beNat (bs.take 2) = (byteAt bs 0).toNat * 256 + (byteAt bs 1).toNat := fieldAt_two (bs := bs) (k := 0) (by omega)
    show (BitVec.ofNat 24 (beNat (bs.take 2) * 256)).toInt = (byteAt bs 0 ++ byteAt bs 1).toInt * 256
    rw [bytes, ← ofNat_bytes_two]
    have h0 := (byteAt bs 0).isLt
    have h1 := (byteAt bs 1).isLt
    simp only [BitVec.toInt_eq_toNat_cond, BitVec.toNat_ofNat]
    omega

theorem payloadValue_drop (wide : Bool) (bs : List Byte) (m p : Nat) :
    payloadValue wide (bs.drop m) p = payloadValue wide bs (m + p) := by
  unfold payloadValue
  simp only [byteAt_drop, Nat.add_assoc]

theorem storedPairs_length (stereo wide : Bool) : ∀ (n : Nat) (bs : List Byte), (storedPairs stereo wide n bs).length = n
  | 0, _ => rfl
  | n + 1, _ => congrArg (· + 1) (storedPairs_length stereo wide n _)

theorem storedPairs_get (stereo wide : Bool) : ∀ (n : Nat) (bs : List Byte), n * timeSpan stereo wide ≤ bs.length → ∀ k, k < n →
    ∃ x, (storedPairs stereo wide n bs)[k]? = some x ∧ x.left.toInt = payloadValue wide bs (k * timeSpan stereo wide) ∧
      x.right.toInt = payloadValue wide bs
        (if stereo then k * timeSpan stereo wide + valueWidth wide else k * timeSpan stereo wide)
  | n + 1, bs, h, 0, _ => by
    have span : timeSpan stereo wide ≤ bs.length := by
      rw [Nat.add_mul] at h
      omega
    refine ⟨_, rfl, ?_, ?_⟩
    · rw [Nat.zero_mul]
      refine storedValue_toInt wide ?_
      cases stereo <;> simp only [timeSpan, if_true, Bool.false_eq_true, if_false] at span <;> omega
    · cases stereo with
      | true =>
        simp only [timeSpan, if_true] at span
        simp only [if_true, Nat.zero_mul, Nat.zero_add]
        have second := storedValue_toInt wide (bs := bs.drop (valueWidth wide)) (by simp; omega)
        rw [payloadValue_drop] at second
        exact second
      | false =>
        simp only [timeSpan, Bool.false_eq_true, if_false] at span
        simp only [Bool.false_eq_true, if_false, Nat.zero_mul]
        exact storedValue_toInt wide span
  | n + 1, bs, h, k + 1, hk => by
    have tail : n * timeSpan stereo wide ≤ (bs.drop (timeSpan stereo wide)).length := by
      rw [Nat.add_mul] at h
      rw [List.length_drop]
      omega
    obtain ⟨x, hx, left, right⟩ := storedPairs_get stereo wide n _ tail k (by omega)
    rw [payloadValue_drop] at left right
    refine ⟨x, hx, ?_, ?_⟩
    · rw [left, Nat.add_mul, Nat.one_mul, Nat.add_comm]
    · rw [right]
      congr 1
      rw [Nat.add_mul, Nat.one_mul]
      split <;> omega

/-! ### The placement decision (R117 to R119) -/

theorem beginPlacement_begun (e : IngressEntry) (f : StoredFrame) (r : RouteId) (c : RouteConfig) :
    PlacementBegun e f r c s (s.beginPlacement r c f (storedData e.bytes)) := by
  unfold PlacementBegun
  intro index
  obtain ⟨burst, reads, frame⟩ := arbitrate_frame (s := s.holdPlacement (placementOf r c f (storedData e.bytes)))
  rw [beginPlacement_eq]
  refine ⟨arbitrate_granted (s := s.holdPlacement (placementOf r c f (storedData e.bytes))), ?_⟩
  rw [frame]
  rfl

/-- R113: a VALID entry found at an index is one of the directory. -/
theorem valid_mem_of_getD {dir : List DirEntry} {k : Nat} {g : StoredFrame} (h : dir.getD k .invalid = .valid g) :
    DirEntry.valid g ∈ dir := by
  rw [List.getD_eq_getElem?_getD] at h
  cases hk : dir[k]? with
  | none =>
    rw [hk] at h
    cases h
  | some x =>
    rw [hk] at h
    obtain rfl : x = .valid g := h
    exact List.mem_of_getElem? hk

theorem bump_released (k : RouteCounters → RouteCounters) (h : s.rx.ingress = e :: rest) :
    (s.bump r k).releaseHand = (released rest s).bump r k :=
  releaseHand_released (s := s.bump r k) h

theorem bump_raise_released (k : RouteCounters → RouteCounters) (x : Condition) (h : s.rx.ingress = e :: rest) :
    ((s.bump r k).raise x).releaseHand = ((released rest s).bump r k).raise x :=
  releaseHand_released (s := (s.bump r k).raise x) h

/-- R117: the decision, in the terms of Safety.lean. -/
theorem decidePlacement_decided (f : StoredFrame) (r : RouteId) (c : RouteConfig) (rp : Seq) (h : s.rx.ingress = e :: rest) :
    PlacementDecided e rest f r c rp s (s.decidePlacement r c rp f (storedData e.bytes)) := by
  unfold PlacementDecided
  intro d found gone slid
  unfold State.decidePlacement
  dsimp only
  refine ⟨fun late => ?_, fun ahead held => ?_, fun ahead unheld => ?_, fun in0 inD ⟨g, hg, same⟩ => ?_, fun in0 inD other => ?_⟩
  · exact (if_pos late).trans (bump_raise_released _ _ h)
  · have h0 : ¬ d < 0 := by omega
    exact ((if_neg h0).trans (if_pos ahead)).trans ((if_pos held).trans (bump_raise_released _ _ h))
  · have h0 : ¬ d < 0 := by omega
    rw [if_neg h0, if_pos ahead, if_neg (by rw [unheld]; simp)]
    exact beginPlacement_begun e f r c
  · have h0 : ¬ d < 0 := by omega
    have h1 : ¬ (c.depth : Int) ≤ d := by omega
    have entry : (s.route r).entryFor c f.seq = .valid g := hg
    rw [if_neg h0, if_neg h1, entry]
    exact (if_pos same).trans (bump_released _ h)
  · have h0 : ¬ d < 0 := by omega
    have h1 : ¬ (c.depth : Int) ≤ d := by omega
    rw [if_neg h0, if_neg h1]
    have begun := beginPlacement_begun (s := s) e f r c
    split
    · next g hg =>
      rw [if_neg (other g hg)]
      exact begun
    · exact begun

/-! ### The hand-off and the admission (R29, R93) -/

theorem handOver_audio (hk : frameKindByte e.bytes = 1) : s.handOver e = s.dispatchAudio e := by
  rw [State.handOver, hk]
  rfl

theorem exec_audio (h : AtHead e rest s) (hp : Passes e s) (hk : frameKindByte e.bytes = 1) (now : Time) :
    exec (.dispatch now) s = .next ((s.clockTo now).dispatchAudio e) := by
  rw [exec_dispatch_passes h hp now (by omega), handOver_audio hk]

theorem exec_audio_handed (h : AtHead e rest s) (hp : Passes e s) (handed : HandedTo e r c s) (undisturbed : e.disarmed = false)
    (now : Time) : exec (.dispatch now) s = .next ((s.clockTo now).admitFrame r c e) := by
  rw [exec_audio h hp handed.kind]
  unfold State.dispatchAudio State.lookUpAudio
  rw [undisturbed, routeHolding_handed (handedTo_clockTo now handed)]
  rfl

/-- R93 step 1: the PT-present flag fits the route's mode. -/
def ptFits (c : RouteConfig) (bs : List Byte) : Prop :=
  c.mode = .sink ∧ audioPtPresent bs = true ∨ c.mode = .source ∧ audioPtPresent bs = false

theorem ptFits_iff : ((c.mode == .sink) != audioPtPresent e.bytes) = false ↔ ptFits c e.bytes := by
  unfold ptFits
  cases c.mode <;> cases audioPtPresent e.bytes <;> decide

/-- R93: the checks of the admission in order, on a route that is ARMED or LIVE. -/
theorem admitFrame_misdirected (taking : (s.route r).taking = true) (h : ¬ ptFits c e.bytes) :
    s.admitFrame r c e = (s.bump r (fun k => { k with misdirected := countUp k.misdirected })).releaseHand := by
  unfold State.admitFrame
  rw [taking]
  exact if_pos (by rwa [← ptFits_iff, Bool.not_eq_false] at h)

theorem admitFrame_oversize (taking : (s.route r).taking = true) (h : ptFits c e.bytes)
    (size : 32 * c.slotPages < audioN e.bytes) : s.admitFrame r c e =
      ((s.bump r (fun k => { k with oversize := countUp k.oversize })).raise .frameOversize).releaseHand := by
  unfold State.admitFrame
  rw [taking, ptFits_iff.mpr h]
  exact if_pos size

theorem admitFrame_sink (taking : (s.route r).taking = true) (mode : c.mode = .sink) (pt : audioPtPresent e.bytes = true)
    (size : audioN e.bytes ≤ 32 * c.slotPages) : s.admitFrame r c e = s.place r c
      { seq := audioSeq e.bytes, pt := audioPt e.bytes, n := audioN e.bytes, restart := audioRestart e.bytes } e.bytes := by
  unfold State.admitFrame
  rw [taking, ptFits_iff.mpr (.inl ⟨mode, pt⟩), mode]
  exact if_neg (not_lt.mpr size)

theorem admitFrame_source {m : TimelineMap} (taking : (s.route r).taking = true) (mode : c.mode = .source)
    (pt : audioPtPresent e.bytes = false) (size : audioN e.bytes ≤ 32 * c.slotPages) (map : (s.slot c.slot).map = some m) :
    s.admitFrame r c e = s.stampAndPlace r c m e := by
  unfold State.admitFrame
  rw [taking, ptFits_iff.mpr (.inr ⟨mode, pt⟩), mode, map]
  exact if_neg (not_lt.mpr size)

/-- R95: at a LIVE route the frame goes to the placement decision. -/
theorem place_live {f : StoredFrame} {rp : Seq} {bs : List Byte} (live : (s.route r).state = .live)
    (release : (s.route r).release = some rp) : s.place r c f bs = s.decidePlacement r c rp f (storedData bs) := by
  rcases goLive_eq (s := s) r c f.seq with ⟨-, same⟩ | ⟨armed, -⟩
  · unfold State.place
    dsimp only
    rw [same, release]
  · rw [live] at armed
    cases armed

/-- R95: at an ARMED route the frame first makes it LIVE. -/
theorem place_armed {f : StoredFrame} {bs : List Byte} (armed : (s.route r).state = .armed) : s.place r c f bs =
    (s.setRoute r { s.route r with state := .live, release := some (f.seq - BitVec.ofNat 16 (c.depth / 4)) }).decidePlacement r c
      (f.seq - BitVec.ofNat 16 (c.depth / 4)) f (storedData bs) := by
  rcases goLive_eq (s := s) r c f.seq with ⟨other, -⟩ | ⟨-, lived⟩
  · exact absurd armed other
  · unfold State.place
    dsimp only
    rw [lived, State.setRoute_route_self]

end Sys2Proof.Machine

namespace Sys2Proof.Proofs

open Sys2Proof.Machine Sys2Proof.Safety

/-- Settles O12: the stored form by induction on the sample times, and the decision in its order. -/
theorem audioPlacementDecided : Obligations.AudioPlacementDecided := by
  unfold Obligations.AudioPlacementDecided
  refine ⟨fun stereo wide n payload => ?_, fun s now e rest r c rp h hp handed undisturbed live sink pt size release => ?_⟩
  · intro width span value hlen
    exact ⟨storedPairs_length stereo wide n payload, storedPairs_get stereo wide n payload (le_of_eq hlen.symm)⟩
  · have taking : ((s.clockTo now).route r).taking = true := by
      rw [State.clockTo_route]
      exact (taking_iff _).mpr (.inr live)
    rw [exec_audio_handed h hp handed undisturbed, admitFrame_sink taking sink pt size,
      place_live (by rw [State.clockTo_route]; exact live) (by rw [State.clockTo_route]; exact release)]
    exact ⟨_, rfl, decidePlacement_decided _ r c rp (by rw [State.clockTo_rx]; exact h.oldest)⟩

/-- Settles O11: the fields byte by byte, the lookup's three ends, and the admission's checks in order. -/
theorem audioFrameAdmitted : Obligations.AudioFrameAdmitted := by
  unfold Obligations.AudioFrameAdmitted
  refine ⟨fun bs hlen => ?_, fun s now e rest h hp hk => ?_⟩
  · exact ⟨fieldAt_two_bytes (by omega), fieldAt_two_bytes (by omega), rfl, rfl, rfl, timeAt_bytes (by omega)⟩
  intro stream gone
  have oldest : (s.clockTo now).rx.ingress = e :: rest := by
    rw [State.clockTo_rx]
    exact h.oldest
  have dropped : (s.clockTo now).releaseHand = gone := gone_eq h now
  have marked : e.disarmed = true → exec (.dispatch now) s = .next gone := fun disarmed => by
    rw [exec_audio h hp hk, ← dropped, State.dispatchAudio, if_pos disarmed]
  have undispatched : e.disarmed = false → exec (.dispatch now) s = .next ((s.clockTo now).lookUpAudio e) := fun undisturbed => by
    rw [exec_audio h hp hk, State.dispatchAudio, undisturbed]
    rfl
  have untaken : (∀ q c', (s.route q).taking = true → (s.route q).config = some c' → c'.stream ≠ stream) →
      (s.clockTo now).routeHolding Route.taking (audioStream e.bytes) = none := fun none => by
    refine routeHolding_eq_none.mpr fun q c' => ?_
    rw [State.clockTo_route]
    exact fun hc ht => none q c' ht hc
  refine ⟨marked, fun undisturbed unknown => ?_, fun r c draining hc hstream none => ?_,
    fun r c handed undisturbed => ?_⟩
  · have takenBy : ∀ q c', (s.route q).taking = true → (s.route q).config = some c' → c'.stream ≠ stream :=
      fun q c' ht hc => unknown q c' (taking_ne_free ht) hc
    have drainedBy : (s.clockTo now).routeHolding (fun t => t.state == .draining) (audioStream e.bytes) = none := by
      refine routeHolding_eq_none.mpr fun q c' => ?_
      rw [State.clockTo_route]
      intro hc hd
      refine unknown q c' ?_ hc
      rw [beq_iff_eq.mp hd]
      decide
    rw [undispatched undisturbed, ← gone_raised h now, State.lookUpAudio, untaken takenBy]
    dsimp only
    rw [drainedBy]
  · cases hd : e.disarmed with
    | true => exact marked hd
    | false =>
      rw [undispatched hd, ← dropped, State.lookUpAudio, untaken none]
      dsimp only
      cases held : (s.clockTo now).routeHolding (fun t => t.state == .draining) (audioStream e.bytes) with
      | some x => rfl
      | none =>
        have unheld := routeHolding_eq_none.mp held r c
        rw [State.clockTo_route] at unheld
        exact absurd hstream (unheld hc (beq_iff_eq.mpr draining))
  · have taking : ((s.clockTo now).route r).taking = true := by
      rw [State.clockTo_route]
      exact (taking_iff _).mpr handed.taking
    rw [exec_audio_handed h hp handed undisturbed]
    refine ⟨fun unfit => ?_, fun fit size => ?_, fun sink pt size armed d8 d64 empty => ?_⟩
    · have misfit : ¬ ptFits c e.bytes := by
        rintro (⟨hm, hpt⟩ | ⟨hm, hpt⟩) <;> rcases unfit with ⟨um, upt⟩ | ⟨um, upt⟩ <;> simp_all
      rw [admitFrame_misdirected taking misfit, bump_released _ oldest]
    · rw [admitFrame_oversize taking fit size, bump_raise_released _ _ oldest]
    · have armed' : ((s.clockTo now).route r).state = .armed := by
        rw [State.clockTo_route]
        exact armed
      rw [admitFrame_sink taking sink pt size, place_armed armed', State.clockTo_route]
      refine ⟨_, rfl, ?_⟩
      set rp : Seq := audioSeq e.bytes - BitVec.ofNat 16 (c.depth / 4)
      have distance : seqDist rp (audioSeq e.bytes) = (c.depth / 4 : Nat) := seqDist_back (by omega)
      obtain ⟨-, -, -, -, stored⟩ := decidePlacement_decided (e := e) (rest := rest)
        (s := (s.clockTo now).setRoute r { s.route r with state := .live, release := some rp })
        { seq := audioSeq e.bytes, pt := audioPt e.bytes, n := audioN e.bytes, restart := audioRestart e.bytes } r c rp oldest
      refine stored (by rw [distance]; omega) (by rw [distance]; omega) fun g hg => ?_
      rw [State.setRoute_route_self] at hg
      exact absurd (valid_mem_of_getD hg) (empty g)

end Sys2Proof.Proofs
end

section
/-! O13: the stamping of a SOURCE frame (R26, R96 to R99). -/

namespace Sys2Proof.Machine

open Sys2Proof.Safety

variable {s : State} {e : IngressEntry} {rest : List IngressEntry} {r : RouteId} {c : RouteConfig}

/-! ### The stamped copy (R26) -/

theorem stampedFlags_eq (restart stereo wide : Bool) : stampedFlags restart stereo wide =
    BitVec.ofNat 8 (1 + (if restart then 2 else 0) + (if stereo then 4 else 0) + (if wide then 8 else 0)) := by
  revert restart stereo wide
  decide

theorem buildAudio_eq (own : Byte) {bs : List Byte} (q : Seq) (pt : Time) (restart : Bool) (bare : audioPtPresent bs = false) :
    buildAudio own bs q pt restart = [1, 15, own] ++ (bs.drop 3).take 2 ++ beBytes 2 q.toNat
      ++ [BitVec.ofNat 8 (1 + (if restart then 2 else 0) + (if audioStereo bs then 4 else 0)
            + (if audioWide bs then 8 else 0)), byteAt bs 8]
      ++ beBytes 6 pt.toNat ++ bs.drop 9 := by
  rw [buildAudio, stampedFlags_eq, audioPayload, bare]
  rfl

/-! ### What the stamping leaves (R97 to R99) -/

/-- R97 to R99: the part once a frame has been stamped and its copy offered, before it is placed. -/
def State.stampedPart (r : RouteId) (q : Seq) (n : Nat) (st : Stamp) (copy : List Byte) (s : State) : State :=
  let s := s.modRoute r (fun t => { t with nextSeq := some (q + 1), lastStamp := some (st.pt, n) })
  let s := if st.restamped then
      (s.bump r (fun k => { k with restamped := countUp k.restamped })).raise .restamped
    else s
  s.offerSource copy

theorem stampAndPlace_eq {q : Seq} {lead : Nat} {m : TimelineMap} {st : Stamp} (hq : (s.route r).nextSeq = some q)
    (hlead : c.lead = some lead)
    (hst : stampFor lead (s.route r).lastStamp (audioRestart e.bytes) (m.convert e.stamp) = st) :
    s.stampAndPlace r c m e =
      (s.stampedPart r q (audioN e.bytes) st (buildAudio s.pins.linkAddress e.bytes q st.pt st.restart)).place r c
        { seq := q, pt := st.pt, n := audioN e.bytes, restart := st.restart } e.bytes := by
  have pins : ∀ u : State, (if st.restamped then
      (u.bump r (fun k => { k with restamped := countUp k.restamped })).raise .restamped else u).pins = u.pins := fun u => by
    split <;> rfl
  unfold State.stampAndPlace State.stampedPart
  dsimp only
  rw [hq, hlead, Option.getD_some, Option.getD_some, hst, pins]
  rfl

/-- R97, R98: the restamped count and condition. -/
theorem restamp_eq (st : Stamp) : (if st.restamped then
      (s.bump r (fun k => { k with restamped := countUp k.restamped })).raise .restamped else s) =
    { s.setRoute r { s.route r with
        counters := { (s.route r).counters with
          restamped := if st.restamped then countUp (s.route r).counters.restamped else (s.route r).counters.restamped } } with
      cond := { s.cond with present := s.cond.present ||| (if st.restamped then Condition.mask .restamped else 0) } } := by
  have same : s.routes.set r.val s.routes[r] r.isLt = s.routes := by simp
  cases st.restamped with
  | true => rfl
  | false =>
    have zero : s.cond.present ||| (0 : BitVec 32) = s.cond.present := BitVec.or_zero
    simp only [Bool.false_eq_true, if_false, zero]
    unfold State.setRoute State.route
    rw [same]

/-- R99: the offer to the SOURCE class. -/
theorem offerSource_eq (copy : List Byte) : s.offerSource copy =
    { s with
      tx := if s.tx.src.length < 4 then { s.tx with src := s.tx.src ++ [copy] } else s.tx
      cond := { s.cond with present := s.cond.present ||| (if s.tx.src.length < 4 then 0 else Condition.mask .forwardDropped) } } := by
  unfold State.offerSource Config.sourceEntries
  split
  · have zero : s.cond.present ||| (0 : BitVec 32) = s.cond.present := BitVec.or_zero
    rw [zero]
  · rfl

theorem setRoute_setRoute (a b : Route) : (s.setRoute r a).setRoute r b = s.setRoute r b := by
  simp [State.setRoute]

theorem setRoute_own (r : RouteId) : s.setRoute r (s.route r) = s := by
  have same : s.routes.set r.val s.routes[r] r.isLt = s.routes := by simp
  unfold State.setRoute State.route
  rw [same]

theorem stampedPart_eq (q : Seq) (n : Nat) (st : Stamp) (copy : List Byte) : s.stampedPart r q n st copy =
    { s.setRoute r { s.route r with
        nextSeq := some (q + 1), lastStamp := some (st.pt, n)
        counters := { (s.route r).counters with
          restamped := if st.restamped then countUp (s.route r).counters.restamped else (s.route r).counters.restamped } } with
      tx := if s.tx.src.length < 4 then { s.tx with src := s.tx.src ++ [copy] } else s.tx
      cond := { s.cond with
        present := s.cond.present ||| (if st.restamped then Condition.mask .restamped else 0)
          ||| (if s.tx.src.length < 4 then 0 else Condition.mask .forwardDropped) } } := by
  unfold State.stampedPart
  dsimp only
  rw [restamp_eq, offerSource_eq, State.modRoute, State.setRoute_route_self, setRoute_setRoute]
  rfl

end Sys2Proof.Machine

namespace Sys2Proof.Proofs

open Sys2Proof.Machine Sys2Proof.Safety

/-- Settles O13: the frame is stamped and its copy offered, the route is LIVE, and the placement is decided. -/
theorem sourceFrameStamped : Obligations.SourceFrameStamped := by
  unfold Obligations.SourceFrameStamped
  intro s now e rest r c q rp lead m h hp handed undisturbed source hlead bare size map next armed live ga
    afresh stamp copy k stamped
  have route := State.clockTo_route s now r
  have taking : ((s.clockTo now).route r).taking = true := by
    rw [route]
    exact (taking_iff _).mpr handed.taking
  have judged : stampFor lead ((s.clockTo now).route r).lastStamp (audioRestart e.bytes) (m.convert e.stamp) =
      { pt := stamp.1, restart := stamp.2.1, restamped := stamp.2.2 } := by
    rw [route]
    unfold stamp stampFor slackInBand
    cases (s.route r).lastStamp with
    | none => rfl
    | some last =>
      dsimp only
      split
      · rfl
      · simp only [Bool.and_eq_true, decide_eq_true_eq]
        split <;> rfl
  rw [exec_audio_handed h hp handed undisturbed,
    admitFrame_source taking source bare size (by rw [State.clockTo_slot]; exact map),
    stampAndPlace_eq (by rw [route]; exact next) hlead judged, State.clockTo_pins, buildAudio_eq _ _ _ _ bare]
  have part : (s.clockTo now).stampedPart r q (audioN e.bytes) { pt := stamp.1, restart := stamp.2.1, restamped := stamp.2.2 } copy =
      _ := stampedPart_eq _ _ _ _
  simp only [State.clockTo_route, State.clockTo_tx, State.clockTo_cond] at part
  generalize (s.clockTo now).stampedPart r q (audioN e.bytes) { pt := stamp.1, restart := stamp.2.1, restamped := stamp.2.2 } copy
    = w at part ⊢
  have own : w.route r = { s.route r with
      nextSeq := some (q + 1), lastStamp := some (stamp.1, audioN e.bytes)
      counters := { k with restamped := if stamp.2.2 then countUp k.restamped else k.restamped } } := by
    rw [part]
    exact State.setRoute_route_self _ r _
  have lived : w.setRoute r { w.route r with state := .live, release := some rp } = stamped := by
    rw [own, part]
    exact congrArg (fun u : State => { u with tx := stamped.tx, cond := stamped.cond })
      (setRoute_setRoute (s := s.clockTo now) (r := r) _ _)
  have oldest : stamped.rx.ingress = e :: rest := (congrArg Receiver.ingress (State.clockTo_rx s now)).trans h.oldest
  have decided := decidePlacement_decided (s := stamped) { seq := q, pt := stamp.1, n := audioN e.bytes, restart := stamp.2.1 }
    r c rp oldest
  refine ⟨_, rfl, ?_⟩
  rcases handed.taking with hs | hs
  · rw [place_armed (by rw [own]; exact hs), ← armed hs, lived]
    exact decided
  · have state : (w.route r).state = .live := by
      rw [own]
      exact hs
    have release : (w.route r).release = some rp := by
      rw [own]
      exact live hs
    rw [← state, ← release, setRoute_own] at lived
    rw [place_live state release, lived]
    exact decided

end Sys2Proof.Proofs
end

section
/-! What a lane's turn at an output instant leaves alone (R132, R136), and what the end of a ramp does to the other lanes. -/

namespace Sys2Proof.Machine

open Sys2Proof.Safety

variable {s t u : State} {i : LaneId}

/-! ### The acts of one lane before its hand-off -/

/-- R132, R136: acts of the lane before its hand-off: its own record, the counters, release point and directory of routes, and
conditions. -/
structure Played (i : LaneId) (s t : State) : Prop where
  lane_ne : ∀ k, k ≠ i → t.lane k = s.lane k
  route : ∀ q, t.route q =
    { s.route q with counters := (t.route q).counters, release := (t.route q).release, dir := (t.route q).dir }
  rest : { t with lanes := s.lanes, routes := s.routes, cond := s.cond } = s

theorem Played.refl : Played i s s := ⟨fun _ _ => rfl, fun _ => rfl, rfl⟩

theorem Played.trans (h : Played i s t) (h' : Played i t u) : Played i s u where
  lane_ne k hk := (h'.lane_ne k hk).trans (h.lane_ne k hk)
  route q := by rw [h'.route q, h.route q]
  rest := by
    have inner : { u with lanes := s.lanes, routes := s.routes, cond := s.cond } =
        { ({ u with lanes := t.lanes, routes := t.routes, cond := t.cond } : State) with
          lanes := s.lanes, routes := s.routes, cond := s.cond } := rfl
    rw [inner, h'.rest]
    exact h.rest

theorem modLane_played (i : LaneId) (f : Lane → Lane) : Played i s (s.modLane i f) :=
  ⟨fun k hk => State.modLane_lane_ne s i k f hk, fun _ => rfl, rfl⟩

theorem raise_played (c : Condition) : Played i s (s.raise c) := ⟨fun _ _ => rfl, fun _ => rfl, rfl⟩

theorem setRoute_played (r : RouteId) (t : Route)
    (h : t = { s.route r with counters := t.counters, release := t.release, dir := t.dir }) : Played i s (s.setRoute r t) := by
  refine ⟨fun _ _ => rfl, fun q => ?_, rfl⟩
  rw [State.setRoute_route]
  split
  · next hq => rw [hq, h]
  · rfl

theorem bump_played (r : RouteId) (k : RouteCounters → RouteCounters) : Played i s (s.bump r k) :=
  setRoute_played r { s.route r with counters := k (s.route r).counters } rfl

theorem recompute_played (r : RouteId) : Played i s (s.recompute r) := by
  obtain ⟨release, dir, h⟩ := recompute_frame (s := s) r
  rw [h]
  exact setRoute_played r _ rfl

theorem landAtEntry_played (i : LaneId) : Played i s (s.landAtEntry i) := by
  unfold State.landAtEntry
  split
  · split
    · split
      · exact modLane_played i _
      · exact modLane_played i _
    · exact modLane_played i _
  · exact .refl

theorem concealNext_played (i : LaneId) (r : RouteId) (c : RouteConfig) (f : CurrentFrame) :
    Played i s (s.concealNext i r c f) :=
  (((modLane_played i _).trans (bump_played r _)).trans (raise_played _)).trans (recompute_played r)

theorem frameEntry_played (i : LaneId) : Played i s (s.frameEntry i) := by
  refine (landAtEntry_played i).trans ?_
  unfold State.frameEntry
  generalize s.landAtEntry i = u
  dsimp only
  split
  · split
    · exact (modLane_played i _).trans (recompute_played _)
    · exact (modLane_played i _).trans (concealNext_played i _ _ _)
    · split
      · exact concealNext_played i _ _ _
      · exact ((modLane_played i _).trans (raise_played _)).trans (concealNext_played i _ _ _)
    · exact concealNext_played i _ _ _
  · exact .refl

theorem realign_played (i : LaneId) : Played i s (s.realign i) := (modLane_played i _).trans (raise_played _)

theorem entryLoop_played (i : LaneId) (fuel : Nat) : Played i s (s.entryLoop i fuel) := by
  induction fuel generalizing s with
  | zero =>
    unfold State.entryLoop
    split
    · exact realign_played i
    · exact .refl
  | succ fuel ih =>
    unfold State.entryLoop
    split
    · dsimp only
      split
      · exact frameEntry_played i
      · exact (frameEntry_played i).trans ih
    · exact .refl

theorem waitTurn_played (i : LaneId) : Played i s (s.waitTurn i) := by
  unfold State.waitTurn
  split
  · next f _ =>
    refine (modLane_played i (Lane.prime f)).trans ?_
    unfold State.recomputeLane
    split
    · exact recompute_played _
    · exact .refl
  · exact .refl

/-! ### The hand-off -/

/-- R149, R171: the lane's reads and its port's frame and register replaced. -/
def State.handed (i : LaneId) (pages : List Nat) (p : Pair) (s : State) : State :=
  ({ s with store := { s.store with reads := s.store.reads.set i.val pages i.isLt } } : State).latchPort i p

/-- R136: a whole turn of the lane: its acts, and then its hand-off. -/
structure Turned (i : LaneId) (s t : State) : Prop where
  lane_ne : ∀ k, k ≠ i → t.lane k = s.lane k
  route : ∀ q, t.route q =
    { s.route q with counters := (t.route q).counters, release := (t.route q).release, dir := (t.route q).dir }
  frame : t.out.frame = s.out.frame.set i.val s.out.reg[i] i.isLt
  reg : ∃ p, t.out.reg = s.out.reg.set i.val p i.isLt
  reads : ∃ pages, t.store.reads = s.store.reads.set i.val pages i.isLt
  rest : { t with
    lanes := s.lanes, routes := s.routes, cond := s.cond, out := s.out, store := { t.store with reads := s.store.reads } } = s

theorem Played.handed {pages : List Nat} {p : Pair} (h : Played i s u) : Turned i s (u.handed i pages p) := by
  have out : u.out = s.out := (congrArg State.out h.rest :)
  have store : u.store = s.store := (congrArg State.store h.rest :)
  refine ⟨h.lane_ne, h.route, ?_, ⟨p, ?_⟩, ⟨pages, ?_⟩, ?_⟩
  · rw [← out]
    rfl
  · rw [← out]
    rfl
  · rw [← store]
    rfl
  · refine Eq.trans ?_ h.rest
    rw [← out, ← store]
    rfl

theorem Turned.modLane (h : Turned i s t) (f : Lane → Lane) : Turned i s (t.modLane i f) :=
  ⟨fun k hk => (State.modLane_lane_ne t i k f hk).trans (h.lane_ne k hk), h.route, h.frame, h.reg, h.reads, h.rest⟩

theorem handSilence_handed (i : LaneId) : s.handSilence i =
    s.handed i [] (shapePair { plan := (s.lane i).plan, depth := 0, gain := (s.lane i).gain, ramp := none } 0 0) := rfl

theorem fetchAndHand_handed (i : LaneId) : s.fetchAndHand i =
    (s.handed i (s.fetch i).2.2 (shapePair (s.lane i).shaping (s.fetch i).1 (s.fetch i).2.1)).modLane i
      (fun l => { l with ramp := l.ramp.map Ramp.advance }) := rfl

theorem Played.silent (h : Played i s u) : Turned i s (u.handSilence i) := by
  rw [handSilence_handed]
  exact h.handed

theorem Played.stepped (h : Played i s u) (d : Int) : Turned i s (u.stepFromEntry i d) := by
  unfold State.stepFromEntry
  dsimp only
  rw [fetchAndHand_handed]
  exact ((h.trans (entryLoop_played i _)).handed.modLane _).modLane _

theorem playTurn_turned (i : LaneId) : Turned i s (s.playTurn i) := by
  unfold State.playTurn
  dsimp only
  split
  · exact (realign_played i).stepped _
  · exact Played.refl.stepped _

theorem primeTurn_turned (i : LaneId) : Turned i s (s.primeTurn i) := by
  unfold State.primeTurn
  split
  · split
    · exact (modLane_played i _).stepped _
    · exact Played.refl.silent
  · exact Played.refl.silent

theorem laneTurn_turned (i : LaneId) : Turned i s (s.laneTurn i) := by
  unfold State.laneTurn
  split
  · exact Played.refl.silent
  · exact (waitTurn_played i).silent
  · exact primeTurn_turned i
  · exact playTurn_turned i
  · exact playTurn_turned i

theorem Turned.frame_ne (h : Turned i s t) {k : LaneId} (hk : k ≠ i) : t.out.frame[k] = s.out.frame[k] := by
  rw [h.frame]
  exact Vector.getElem_set_ne _ _ (Fin.val_ne_of_ne hk.symm)

theorem Turned.frame_self (h : Turned i s t) : t.out.frame[i] = s.out.reg[i] := by
  rw [h.frame]
  exact Vector.getElem_set_self _

theorem Turned.reg_ne (h : Turned i s t) {k : LaneId} (hk : k ≠ i) : t.out.reg[k] = s.out.reg[k] := by
  obtain ⟨p, reg⟩ := h.reg
  rw [reg]
  exact Vector.getElem_set_ne _ _ (Fin.val_ne_of_ne hk.symm)

theorem Turned.reads_ne (h : Turned i s t) {k : LaneId} (hk : k ≠ i) : t.store.reads[k] = s.store.reads[k] := by
  obtain ⟨pages, reads⟩ := h.reads
  rw [reads]
  exact Vector.getElem_set_ne _ _ (Fin.val_ne_of_ne hk.symm)

/-! ### Ramps that end before a later lane's turn (R136 stage 6) -/

/-- R136 stage 6, R141: the 64th step of the lane's ramp-down has been made. -/
def Lane.rampOver (l : Lane) : Prop := l.state = .rampdown ∧ ∃ count level dest, l.ramp = some (.down count level dest) ∧ 64 < count

/-- R141: the lane has left RAMPDOWN. -/
def Lane.landedIdle (l : Lane) : Prop := (l.state = .wait ∨ l.state = .stop) ∧ l.playhead = none

/-- R103, R141: ends of ramps, as the rest of the part sees them. -/
structure RampsOver (s t : State) : Prop where
  stays : ∀ k, ¬ (s.lane k).rampOver → t.lane k = s.lane k
  config : ∀ k q c, ¬ (s.lane k).rampOver → (s.lane k).route = some q → (s.route q).config = some c →
    (t.route q).config = some c
  rest : { t with
    lanes := s.lanes, routes := s.routes, store := { t.store with pages := s.store.pages }, tx := { t.tx with rep := s.tx.rep }
    mgmt := s.mgmt } = s

theorem RampsOver.refl : RampsOver s s := ⟨fun _ _ => rfl, fun _ _ _ _ _ h => h, rfl⟩

theorem RampsOver.trans (h : RampsOver s t) (h' : RampsOver t u) : RampsOver s u where
  stays k hk := (h'.stays k (by rwa [h.stays k hk])).trans (h.stays k hk)
  config k q c hk hr hc :=
    h'.config k q c (by rwa [h.stays k hk]) (by rwa [h.stays k hk]) (h.config k q c hk hr hc)
  rest := by
    have inner : { u with
          lanes := s.lanes, routes := s.routes, store := { u.store with pages := s.store.pages }
          tx := { u.tx with rep := s.tx.rep }, mgmt := s.mgmt } =
        { ({ u with
            lanes := t.lanes, routes := t.routes, store := { u.store with pages := t.store.pages }
            tx := { u.tx with rep := t.tx.rep }, mgmt := t.mgmt } : State) with
          lanes := s.lanes, routes := s.routes, store := { u.store with pages := s.store.pages }
          tx := { u.tx with rep := s.tx.rep }, mgmt := s.mgmt } := rfl
    have store : { u.store with pages := t.store.pages } = t.store := (congrArg State.store h'.rest :)
    have tx : { u.tx with rep := t.tx.rep } = t.tx := (congrArg State.tx h'.rest :)
    have store' : { u.store with pages := s.store.pages } = { t.store with pages := s.store.pages } :=
      (congrArg (fun x : Store => { x with pages := s.store.pages }) store :)
    have tx' : { u.tx with rep := s.tx.rep } = { t.tx with rep := s.tx.rep } :=
      (congrArg (fun x : Transmitter => { x with rep := s.tx.rep }) tx :)
    rw [inner, h'.rest, store', tx']
    exact h.rest

/-- R103, R141: the leaving of one lane. -/
theorem leaveRamp_over (i : LaneId) (dest : Destination) (isOver : (s.lane i).rampOver) : RampsOver s (s.leaveRamp i dest) := by
  have other : ∀ k, ¬ (s.lane k).rampOver → k ≠ i := fun k hk hki => hk (hki ▸ isOver)
  cases hr : (s.lane i).route with
  | none =>
    have plain : s.leaveRamp i dest = s.setLane i ((s.lane i).landed s.time.lmc dest) := by
      unfold State.leaveRamp State.leaveTo
      rw [hr]
      cases dest <;> rfl
    rw [plain]
    exact ⟨fun k hk => State.setLane_lane_ne s i k _ (other k hk), fun _ _ _ _ _ hc => hc, rfl⟩
  | some r =>
    obtain ⟨lane_ne, route_ne, stays, frees, -, -⟩ := leaveRamp_left hr dest
    have frame : ∃ u : State, LaneMove i ((s.lane i).landed s.time.lmc dest) s u ∧
        (s.leaveRamp i dest = u ∨ s.leaveRamp i dest = u.tryFree r) := by
      unfold State.leaveRamp
      rw [hr]
      cases dest with
      | wait => exact ⟨_, leaveTo_move i _, .inl rfl⟩
      | stop => exact ⟨_, leaveTo_move i _, .inr rfl⟩
    refine ⟨fun k hk => lane_ne k (other k hk), fun k q c hk hq hc => ?_, ?_⟩
    · by_cases hqr : q = r
      · subst hqr
        have notLast : ¬ LastHold i q dest s := fun last => last.2.2.1 k (other k hk) hq
        obtain ⟨-, kept, -⟩ := stays notLast
        rw [kept]
        exact hc
      · rw [route_ne q hqr]
        exact hc
    · obtain ⟨u, move, h | h⟩ := frame
      · rw [h]
        exact (congrArg (fun x : State => { x with
          store := { x.store with pages := s.store.pages }, tx := { x.tx with rep := s.tx.rep }, mgmt := s.mgmt }) move.rest :)
      · obtain ⟨pages, routes, rep, mgmt, freed⟩ := tryFree_frame (s := u) r
        rw [h, freed]
        exact (congrArg (fun x : State => { x with
          store := { x.store with pages := s.store.pages }, tx := { x.tx with rep := s.tx.rep }, mgmt := s.mgmt }) move.rest :)

theorem landedChange_landed {l : Lane} (h : l.landedIdle) (takes : RouteId → Bool) : (l.landedChange takes).landedIdle := by
  refine ⟨landedChange_idle h.1 takes, ?_⟩
  unfold Lane.landedChange
  split
  · exact h.2
  · split
    · exact h.2
    · split <;> exact h.2

theorem landed_landedIdle (now : Time) (dest : Destination) (l : Lane) : (l.landed now dest).landedIdle :=
  ⟨landed_idle now dest l, by cases dest <;> rfl⟩

theorem endRamp_over (i : LaneId) (dest : Destination) (isOver : (s.lane i).rampOver) :
    RampsOver s (s.endRamp i dest) ∧ ((s.endRamp i dest).lane i).landedIdle := by
  rw [endRamp_lands, landAtRampEnd_eq]
  have left := leaveRamp_over i dest isOver
  have own : ((s.leaveRamp i dest).lane i).landedIdle := by
    rw [leaveRamp_lane]
    exact landed_landedIdle _ _ _
  generalize s.leaveRamp i dest = u at *
  refine ⟨⟨fun k hk => ?_, left.config, left.rest⟩, ?_⟩
  · have hki : k ≠ i := fun hki => hk (hki ▸ isOver)
    rw [State.setLane_lane_ne u i k _ hki]
    exact left.stays k hk
  · rw [State.setLane_lane_self]
    exact landedChange_landed own _

/-- RAMP_END's act on a lane: a ramp at its end does so, and nothing else happens. -/
theorem rampEndAct_over (i : LaneId) : RampsOver s (s.rampEndAct i) ∧
    ((s.lane i).rampOver → ((s.rampEndAct i).lane i).landedIdle) ∧ (¬ (s.lane i).rampOver → s.rampEndAct i = s) := by
  by_cases isOver : (s.lane i).rampOver
  · obtain ⟨hs, count, level, dest, hd, hc⟩ := isOver
    rw [rampEndAct_of hs hd hc]
    obtain ⟨ended, idle⟩ := endRamp_over i dest ⟨hs, count, level, dest, hd, hc⟩
    exact ⟨ended, fun _ => idle, fun hn => absurd ⟨hs, count, level, dest, hd, hc⟩ hn⟩
  · have same : s.rampEndAct i = s := by
      unfold State.rampEndAct
      split
      · next hs hd => exact if_neg fun hc => isOver ⟨hs, _, _, _, hd, hc⟩
      · rfl
    rw [same]
    exact ⟨.refl, fun h => absurd h isOver, fun _ => rfl⟩

theorem not_rampOver_of_landed {l : Lane} (h : l.landedIdle) : ¬ l.rampOver := fun isOver => by
  rcases h.1 with hs | hs <;> · rw [isOver.1] at hs; cases hs

theorem rampEnds_over : ∀ (l : List LaneId) (s : State), RampsOver s (l.foldl (fun s i => s.rampEndAct i) s) ∧
    (∀ k ∈ l, (s.lane k).rampOver → ((l.foldl (fun s i => s.rampEndAct i) s).lane k).landedIdle) ∧
    ((∀ k ∈ l, ¬ (s.lane k).rampOver) → l.foldl (fun s i => s.rampEndAct i) s = s)
  | [], s => ⟨.refl, fun _ hk => absurd hk List.not_mem_nil, fun _ => rfl⟩
  | i :: l, s => by
    obtain ⟨first, ends, still⟩ := rampEndAct_over (s := s) i
    obtain ⟨later, ended, quiet⟩ := rampEnds_over l (s.rampEndAct i)
    rw [List.foldl_cons]
    refine ⟨first.trans later, fun k hk isOver => ?_, fun hn => ?_⟩
    · by_cases hki : k = i
      · have idle := ends (hki ▸ isOver)
        rw [hki, later.stays i (not_rampOver_of_landed idle)]
        exact idle
      · have hkl : k ∈ l := (List.mem_cons.mp hk).resolve_left hki
        by_cases iover : (s.lane i).rampOver
        · obtain ⟨hs, count, level, dest, hd, hc⟩ := iover
          have same : (s.rampEndAct i).lane k = s.lane k := by
            rw [rampEndAct_of hs hd hc, endRamp_lands, landAtRampEnd_eq, State.setLane_lane_ne _ i k _ hki]
            cases hr : (s.lane i).route with
            | none =>
              unfold State.leaveRamp State.leaveTo
              rw [hr]
              cases dest <;> exact State.setLane_lane_ne s i k _ hki
            | some r => exact (leaveRamp_left hr dest).lane_ne k hki
          exact ended k hkl (by rwa [same])
        · have same := still iover
          exact ended k hkl (by rwa [same])
    · have same := still (hn i (by simp))
      rw [same] at quiet ⊢
      exact quiet fun k hk => hn k (by simp [hk])

theorem endRamps_over : RampsOver s s.endRamps := (rampEnds_over allLanes s).1

theorem endRamps_ended {k : LaneId} (h : (s.lane k).rampOver) : (s.endRamps.lane k).landedIdle :=
  (rampEnds_over allLanes s).2.1 k (mem_allLanes k) h

theorem endRamps_still (h : ∀ k, ¬ (s.lane k).rampOver) : s.endRamps = s := (rampEnds_over allLanes s).2.2 fun k _ => h k

end Sys2Proof.Machine
end

section
/-! The sense pins at an output instant (R166, R175, R176). -/

namespace Sys2Proof.Machine

open Sys2Proof.Safety

variable {s : State}

/-! ### One input accepted -/

/-- R175, R192: an acceptance but for its mute: the input, and the condition of an activation. -/
def State.acceptInput (i : InputId) (s : State) : State :=
  { s.setInput i (acceptedInput (s.input i)) with
    cond := { s.cond with
      present := s.cond.present ||| (if 48 ≤ (s.input i).run ∧ (s.input i).accepted = false then (senseCondition i).mask else 0) } }

theorem acceptedInput_short {x : SenseInput} (h : x.run < 48) : acceptedInput x = x := if_pos h

theorem acceptedInput_inactive {x : SenseInput} (h : 48 ≤ x.run) (ha : x.accepted = true) :
    acceptedInput x = { x with accepted := false, run := 0 } := by
  unfold acceptedInput
  rw [if_neg (by omega), if_pos ha]

theorem acceptedInput_active {x : SenseInput} (h : 48 ≤ x.run) (ha : x.accepted = false) :
    acceptedInput x = { x with accepted := true, run := 0, latch := x.latch || x.action == .muteAll } := by
  unfold acceptedInput
  rw [if_neg (by omega), if_neg (by simp [ha])]

/-- R176: an acceptance clears no latch. -/
theorem acceptedInput_latch {x : SenseInput} (h : x.latch = true) : (acceptedInput x).latch = true := by
  by_cases hr : x.run < 48
  · rw [acceptedInput_short hr, h]
  · cases ha : x.accepted with
    | true =>
      rw [acceptedInput_inactive (by omega) ha]
      exact h
    | false =>
      rw [acceptedInput_active (by omega) ha]
      simp [h]

/-- An input accepted is settled. -/
theorem acceptedInput_run (x : SenseInput) : (acceptedInput x).run < 48 := by
  by_cases hr : x.run < 48
  · rwa [acceptedInput_short hr]
  · cases ha : x.accepted with
    | true => simp [acceptedInput_inactive (not_lt.mp hr) ha]
    | false => simp [acceptedInput_active (not_lt.mp hr) ha]

theorem setInput_own (i : InputId) : s.setInput i (s.input i) = s := by
  have same : s.sense.set i.val s.sense[i] i.isLt = s.sense := by simp
  unfold State.setInput State.input
  rw [same]

theorem latch_of_unmuted {i : InputId} (h : s.muted = false) : (s.input i).latch = false := by
  by_contra hl
  rw [Bool.not_eq_false] at hl
  rw [muted_of_latch hl] at h
  cases h

/-- R176: SENSE_ACCEPT's act: the acceptance, and the mute where this is the first latch. -/
theorem senseAcceptAct_eq (i : InputId) : s.senseAcceptAct i =
    if s.muted = false ∧ (acceptedInput (s.input i)).latch = true then (s.acceptInput i).muteLanes else s.acceptInput i := by
  have zero : s.cond.present ||| (0 : BitVec 32) = s.cond.present := BitVec.or_zero
  have idle : (acceptedInput (s.input i)).latch = (s.input i).latch →
      ¬ (s.muted = false ∧ (acceptedInput (s.input i)).latch = true) := fun same ⟨hm, hl⟩ => by
    rw [same, latch_of_unmuted hm] at hl
    cases hl
  by_cases hr : (s.input i).run < 48
  · have short := acceptedInput_short hr
    rw [if_neg (idle (by rw [short]))]
    unfold State.acceptInput
    rw [short, setInput_own, if_neg (by omega), zero]
    unfold State.senseAcceptAct
    dsimp only
    rw [if_pos (by simpa [Config.debounce] using hr)]
  · cases ha : (s.input i).accepted with
    | true =>
      have inactive := acceptedInput_inactive (not_lt.mp hr) ha
      rw [if_neg (idle (by rw [inactive])), senseAcceptAct_inactive (not_lt.mp hr) ha]
      unfold State.acceptInput
      rw [inactive, if_neg (by simp [ha]), zero]
      rfl
    | false =>
      have active := acceptedInput_active (not_lt.mp hr) ha
      have accepts : s.acceptInput i = (s.setInput i { s.input i with
          accepted := true, run := 0, latch := (s.input i).latch || (s.input i).action == .muteAll }).raise (senseCondition i) := by
        unfold State.acceptInput
        rw [active, if_pos ⟨not_lt.mp hr, ha⟩]
        rfl
      rw [senseAcceptAct_active (not_lt.mp hr) ha, active, accepts]
      simp only [Bool.and_eq_true, Bool.not_eq_true']
      rfl

/-! ### Both pins sampled and accepted -/

/-- R166, R175: the pins are sampled, and then the inputs accepted. -/
def State.senses (sns0 sns1 : Bool) (s : State) : State := ((s.samplePins sns0 sns1).senseAcceptAct 0).senseAcceptAct 1

theorem samplePins_input (sns0 sns1 : Bool) : (s.samplePins sns0 sns1).input 0 = sampledInput sns0 (s.input 0) ∧
    (s.samplePins sns0 sns1).input 1 = sampledInput sns1 (s.input 1) := by
  unfold State.samplePins
  constructor
  · rw [State.setInput_input_ne _ _ _ _ (by decide), State.setInput_input_self]
    rfl
  · rw [State.setInput_input_self]
    rfl

theorem acceptInput_input_self (i : InputId) : (s.acceptInput i).input i = acceptedInput (s.input i) :=
  State.setInput_input_self s i _

theorem acceptInput_input_ne {i k : InputId} (h : k ≠ i) : (s.acceptInput i).input k = s.input k :=
  State.setInput_input_ne s i k _ h

theorem CauseRun.kept {after : Time → Lane → Lane} {left : LaneId → Prop} {t : State} (h : CauseRun after left s t) :
    t.cond = s.cond ∧ t.sense = s.sense := by
  have rest := h.rest
  exact ⟨(congrArg State.cond rest :), (congrArg State.sense rest :)⟩

theorem CauseRun.aside {after : Time → Lane → Lane} {left : LaneId → Prop} {u t : State} (h : CauseRun after left u t)
    (hu : { u with sense := s.sense, cond := s.cond, lanes := s.lanes, routes := s.routes } = s) :
    { t with sense := s.sense, cond := s.cond, lanes := s.lanes, routes := s.routes } = s :=
  (congrArg (fun z : State => { z with sense := s.sense, cond := s.cond, lanes := s.lanes, routes := s.routes }) h.rest).trans hu

theorem muteLanes_kept : s.muteLanes.cond = s.cond ∧ s.muteLanes.sense = s.sense := muteLanes_run.kept

theorem muteLanes_cond_input (k : InputId) : s.muteLanes.input k = s.input k := by
  unfold State.input
  rw [muteLanes_kept.2]

theorem muted_of_inputs {t : State} (h : ∀ k, t.input k = s.input k) : t.muted = s.muted := by
  unfold State.muted
  rw [h, h]

/-- R166: what both acceptances make of the part, the mute taken once. -/
theorem senses_cases (sns0 sns1 : Bool) :
    let u := (s.samplePins sns0 sns1).acceptInput 0
    let mutes : Prop := s.muted = false ∧ ((acceptedInput (sampledInput sns0 (s.input 0))).latch = true
      ∨ (acceptedInput (sampledInput sns1 (s.input 1))).latch = true)
    (mutes → s.senses sns0 sns1 = u.muteLanes.acceptInput 1 ∨ s.senses sns0 sns1 = (u.acceptInput 1).muteLanes) ∧
      (¬ mutes → s.senses sns0 sns1 = u.acceptInput 1) := by
  intro u mutes
  obtain ⟨in0, in1⟩ := samplePins_input (s := s) sns0 sns1
  have sampled : (s.samplePins sns0 sns1).muted = s.muted := by
    unfold State.muted
    rw [in0, in1]
    rfl
  have u0 : u.input 0 = acceptedInput (sampledInput sns0 (s.input 0)) := by
    rw [← in0]
    exact acceptInput_input_self 0
  have u1 : u.input 1 = sampledInput sns1 (s.input 1) := by
    rw [← in1]
    exact acceptInput_input_ne (by decide)
  have first := senseAcceptAct_eq (s := s.samplePins sns0 sns1) 0
  rw [sampled, in0] at first
  unfold State.senses
  rw [first]
  by_cases m0 : s.muted = false ∧ (acceptedInput (sampledInput sns0 (s.input 0))).latch = true
  · have muted : u.muteLanes.muted = true := muted_of_latch (i := 0) (by rw [muteLanes_cond_input, u0]; exact m0.2)
    rw [if_pos m0, senseAcceptAct_eq, if_neg (by rw [muted]; simp)]
    exact ⟨fun _ => .inl rfl, fun hn => absurd ⟨m0.1, .inl m0.2⟩ hn⟩
  · rw [if_neg m0, senseAcceptAct_eq, show ((s.samplePins sns0 sns1).acceptInput 0).input 1 = _ from u1]
    have muted : u.muted = false ↔ s.muted = false := by
      refine ⟨fun h => ?_, fun h => ?_⟩
      · by_contra hs
        rw [Bool.not_eq_false, muted_iff] at hs
        rcases hs with hl | hl
        · have : u.muted = true := muted_of_latch (i := 0) (by rw [u0]; exact acceptedInput_latch hl)
          rw [this] at h
          cases h
        · have : u.muted = true := muted_of_latch (i := 1) (by rw [u1]; exact hl)
          rw [this] at h
          cases h
      · rw [← Bool.not_eq_true, muted_iff, u0, u1]
        rintro (hl | hl)
        · exact m0 ⟨h, hl⟩
        · exact absurd (show (s.input 1).latch = true from hl) (by rw [latch_of_unmuted h]; simp)
    by_cases m1 : s.muted = false ∧ (acceptedInput (sampledInput sns1 (s.input 1))).latch = true
    · rw [if_pos ⟨muted.mpr m1.1, m1.2⟩]
      exact ⟨fun _ => .inr rfl, fun hn => absurd ⟨m1.1, .inr m1.2⟩ hn⟩
    · rw [if_neg fun h => m1 ⟨muted.mp h.1, h.2⟩]
      exact ⟨fun h => (h.2.elim (fun hl => m0 ⟨h.1, hl⟩) fun hl => m1 ⟨h.1, hl⟩).elim, fun _ => rfl⟩

/-- What the acceptance of input 1 leaves where that of input 0 has been taken. -/
theorem acceptBoth (sns0 sns1 : Bool) :
    let x := sampledInput sns0 (s.input 0)
    let y := sampledInput sns1 (s.input 1)
    ∃ sense cond, (s.samplePins sns0 sns1).acceptInput 0 = { s with sense := sense, cond := cond } ∧
      (({ s with sense := sense, cond := cond } : State).acceptInput 1).input 0 = acceptedInput x ∧
      (({ s with sense := sense, cond := cond } : State).acceptInput 1).input 1 = acceptedInput y ∧
      (({ s with sense := sense, cond := cond } : State).acceptInput 1).cond = { s.cond with
        present := s.cond.present ||| (if 48 ≤ x.run ∧ x.accepted = false then Condition.mask .sense0 else 0)
          ||| (if 48 ≤ y.run ∧ y.accepted = false then Condition.mask .sense1 else 0) } := by
  intro x y
  obtain ⟨in0, in1⟩ := samplePins_input (s := s) sns0 sns1
  have frame : (s.samplePins sns0 sns1).acceptInput 0 =
      { s with
        sense := ((s.samplePins sns0 sns1).acceptInput 0).sense, cond := ((s.samplePins sns0 sns1).acceptInput 0).cond } := rfl
  refine ⟨_, _, frame, ?_, ?_, ?_⟩
  all_goals rw [← frame]
  · rw [acceptInput_input_ne (by decide), acceptInput_input_self, in0]
  · rw [acceptInput_input_self, acceptInput_input_ne (by decide), in1]
  · have accepted : ∀ (u : State) (i : InputId), (u.acceptInput i).cond = { u.cond with
        present := u.cond.present ||| (if 48 ≤ (u.input i).run ∧ (u.input i).accepted = false then (senseCondition i).mask else 0) } :=
      fun _ _ => rfl
    rw [accepted, accepted, acceptInput_input_ne (by decide), in0, in1]
    rfl

theorem senses_taken (sns0 sns1 : Bool) : SensesTaken sns0 sns1 s (s.senses sns0 sns1) := by
  unfold SensesTaken
  intro x y mutes
  obtain ⟨moves, stays⟩ := senses_cases (s := s) sns0 sns1
  obtain ⟨sense, cond, accepted, v0, v1, raised⟩ := acceptBoth (s := s) sns0 sns1
  rw [accepted] at moves stays
  by_cases hm : mutes
  · rcases moves hm with h | h
    · have run := muteLanes_run (s := { s with sense := sense, cond := cond })
      obtain ⟨kcond, ksense⟩ := muteLanes_kept (s := { s with sense := sense, cond := cond })
      generalize State.muteLanes { s with sense := sense, cond := cond } = w at run kcond ksense h
      have same : ∀ k, (w.acceptInput 1).input k = (({ s with sense := sense, cond := cond } : State).acceptInput 1).input k :=
        fun k => by
          unfold State.acceptInput State.setInput State.input
          dsimp only
          rw [ksense]
      rw [h, same, same]
      refine ⟨v0, v1, ?_, fun _ => ⟨fun i => run.moved i trivial, ⟨run.routes.others, run.routes.single, run.routes.kept⟩⟩,
        fun hn => absurd hm hn, run.aside rfl⟩
      rw [← raised]
      unfold State.acceptInput State.input
      rw [kcond, ksense]
    · have run := muteLanes_run (s := State.acceptInput 1 { s with sense := sense, cond := cond })
      obtain ⟨kcond, -⟩ := muteLanes_kept (s := State.acceptInput 1 { s with sense := sense, cond := cond })
      have input := muteLanes_cond_input (s := State.acceptInput 1 { s with sense := sense, cond := cond })
      generalize State.muteLanes (State.acceptInput 1 { s with sense := sense, cond := cond }) = w at run kcond h input
      rw [h, input, input, kcond]
      exact ⟨v0, v1, raised, fun _ => ⟨fun i => run.moved i trivial, ⟨run.routes.others, run.routes.single, run.routes.kept⟩⟩,
        fun hn => absurd hm hn, run.aside rfl⟩
  · rw [stays hm]
    exact ⟨v0, v1, raised, fun h => absurd h hm, fun _ => ⟨rfl, rfl⟩, rfl⟩

/-! ### The mark of the instant -/

/-- R34: the output instant of the present counter value is taken. -/
def State.marked (s : State) : State := { s with time := { s.time with instantTaken := true } }

theorem recompute_marked (r : RouteId) : s.marked.recompute r = (s.recompute r).marked := by
  have holds : s.marked.holds r = s.holds r := rfl
  have route : s.marked.route r = s.route r := rfl
  unfold State.recompute
  rw [holds, route]
  split
  · rfl
  · split
    · rfl
    · split <;> rfl

theorem waitCause_marked (i : LaneId) : s.marked.waitCause i = (s.waitCause i).marked := by
  have lane : s.marked.lane i = s.lane i := rfl
  unfold State.waitCause
  rw [lane]
  split
  · unfold State.primeToWait State.leaveTo
    rw [lane]
    cases (s.lane i).route with
    | none => rfl
    | some r => exact recompute_marked (s := s.setLane i { ((s.lane i).clearPlay.startHold s.time.lmc) with state := .wait }) r
  · rfl

theorem muteLanes_marked : s.marked.muteLanes = s.muteLanes.marked :=
  List.foldl_hom State.marked fun _ i => waitCause_marked i

theorem senseAcceptAct_marked (i : InputId) : s.marked.senseAcceptAct i = (s.senseAcceptAct i).marked := by
  have input : s.marked.input i = s.input i := rfl
  have muted : s.marked.muted = s.muted := rfl
  rw [senseAcceptAct_eq, senseAcceptAct_eq, muted, input]
  split
  · exact muteLanes_marked (s := s.acceptInput i)
  · rfl

theorem senses_marked (sns0 sns1 : Bool) : s.marked.senses sns0 sns1 = (s.senses sns0 sns1).marked := by
  unfold State.senses
  rw [← senseAcceptAct_marked, ← senseAcceptAct_marked]
  rfl

end Sys2Proof.Machine
end

section
/-! O25: what an output instant does to the part (R34, R132, R136, R150, R166, R171, R175). -/

namespace Sys2Proof.Machine

open Sys2Proof.Safety

variable {s t u : State} {i k : LaneId}

/-! ### The command -/

theorem marked_of_due {now : Time} (due : InstantDue now s) : (s.clockTo now).time.instantTaken = false := by
  unfold State.clockTo
  split
  · next h => exact due.fresh.resolve_left (not_not.mpr h)
  · rfl

theorem outputInstant_due {now : Time} (due : InstantDue now s) (sns0 sns1 first : Bool) :
    (s.clockTo now).outputInstant sns0 sns1 first = (s.clockTo now).marked.instantActs sns0 sns1 first :=
  if_pos ⟨by rw [State.clockTo_lmc]; exact due.multiple, marked_of_due due⟩

theorem exec_outputInstant (h : Ready s) (now : Time) (sns0 sns1 first : Bool) :
    exec (.outputInstant now sns0 sns1 first) s = .next ((s.clockTo now).outputInstant sns0 sns1 first) :=
  congrArg Host.Outcome.next (actAt_of_ready h _ now)

theorem outputInstant_undue {now : Time} (h : ¬ InstantDue now s) (sns0 sns1 first : Bool) :
    (s.clockTo now).outputInstant sns0 sns1 first = s.clockTo now := by
  refine if_neg fun ⟨multiple, untaken⟩ => h ⟨by rwa [State.clockTo_lmc] at multiple, ?_⟩
  by_cases hn : now = s.time.lmc
  · rw [State.clockTo, if_pos hn] at untaken
    exact .inr untaken
  · exact .inl hn

/-- R132, R136: the lanes' turns in lane order, and the grant. -/
def State.lanesTurn (s : State) : State := (allLanes.foldl (fun s i => s.laneInOrder i) s).arbitrate

theorem instantActs_after (sns0 sns1 : Bool) : s.instantActs sns0 sns1 false = s.lanesTurn.samplePins sns0 sns1 := by
  unfold State.instantActs
  exact if_neg (by simp)

theorem instantActs_before (sns0 sns1 : Bool) : s.instantActs sns0 sns1 true = (s.senses sns0 sns1).lanesTurn := by
  unfold State.instantActs
  exact if_pos rfl

/-- No follow-up act is due, block by block. -/
theorem quiet_iff : s.quiet = true ↔ s.store.quiet = true ∧ (∀ i, (s.slot i).quiet = true) ∧ (∀ i, (s.lane i).quiet = true) ∧
    ∀ i, (s.input i).quiet = true := by
  have slots : allSlots.all (fun i => (s.slot i).quiet) = true ↔ ∀ i, (s.slot i).quiet = true := by
    rw [List.all_eq_true]
    exact ⟨fun h i => h i (mem_allSlots i), fun h i _ => h i⟩
  have lanes : allLanes.all (fun i => (s.lane i).quiet) = true ↔ ∀ i, (s.lane i).quiet = true := by
    rw [List.all_eq_true]
    exact ⟨fun h i => h i (mem_allLanes i), fun h i _ => h i⟩
  have inputs : (s.input 0).quiet = true ∧ (s.input 1).quiet = true ↔ ∀ i, (s.input i).quiet = true :=
    (Fin.forall_fin_two (p := fun i => (s.input i).quiet = true)).symm
  unfold State.quiet State.quietUnplaced
  rw [Bool.and_eq_true, Bool.and_eq_true, Bool.and_eq_true, Bool.and_eq_true, slots, lanes, and_assoc, and_assoc, inputs]

theorem not_rampOver_of_quiet {l : Lane} (h : l.quiet = true) : ¬ l.rampOver := by
  rintro ⟨hs, count, level, dest, hd, hc⟩
  have : count ≤ Config.rampLength := by simpa [Lane.quiet, hd, hs] using h
  exact absurd hc (not_lt.mpr this)

/-- A part that owes no act has no ramp at its end. -/
theorem not_rampOver_of_ready (h : Ready s) (k : LaneId) : ¬ (s.lane k).rampOver :=
  not_rampOver_of_quiet ((quiet_iff.mp h.quiet).2.2.1 k)

/-! ### A run of turns, as another lane sees it -/

/-- R132: what the turns of other lanes leave of the lane `k`: its port and its reads; and, unless its ramp is at its end, its
record and the configuration of its route. -/
structure Passed (k : LaneId) (s t : State) : Prop where
  frame : t.out.frame[k] = s.out.frame[k]
  reg : t.out.reg[k] = s.out.reg[k]
  reads : t.store.reads[k] = s.store.reads[k]
  lane : ¬ (s.lane k).rampOver → t.lane k = s.lane k
  config : ∀ q c, ¬ (s.lane k).rampOver → (s.lane k).route = some q → (s.route q).config = some c → (t.route q).config = some c

/-- What a run of turns leaves of the rest of the part. -/
def KeptAside (s t : State) : Prop :=
  { t with
    lanes := s.lanes, routes := s.routes, cond := s.cond, out := s.out, mgmt := s.mgmt, tx := { t.tx with rep := s.tx.rep }
    store := { t.store with pages := s.store.pages, reads := s.store.reads } } = s

theorem Passed.refl : Passed k s s := ⟨rfl, rfl, rfl, fun _ => rfl, fun _ _ _ _ h => h⟩

theorem Passed.trans (h : Passed k s t) (h' : Passed k t u) : Passed k s u where
  frame := h'.frame.trans h.frame
  reg := h'.reg.trans h.reg
  reads := h'.reads.trans h.reads
  lane hk := (h'.lane (by rwa [h.lane hk])).trans (h.lane hk)
  config q c hk hr hc := h'.config q c (by rwa [h.lane hk]) (by rwa [h.lane hk]) (h.config q c hk hr hc)

theorem KeptAside.trans (h : KeptAside s t) (h' : KeptAside t u) : KeptAside s u := by
  unfold KeptAside at *
  have store : { u.store with pages := t.store.pages, reads := t.store.reads } = t.store := (congrArg State.store h' :)
  have tx : { u.tx with rep := t.tx.rep } = t.tx := (congrArg State.tx h' :)
  have store' : { u.store with pages := s.store.pages, reads := s.store.reads } =
      { t.store with pages := s.store.pages, reads := s.store.reads } :=
    (congrArg (fun x : Store => { x with pages := s.store.pages, reads := s.store.reads }) store :)
  have tx' : { u.tx with rep := s.tx.rep } = { t.tx with rep := s.tx.rep } :=
    (congrArg (fun x : Transmitter => { x with rep := s.tx.rep }) tx :)
  rw [store', tx']
  refine Eq.trans ?_ h
  exact (congrArg (fun x : State => { x with
    lanes := s.lanes, routes := s.routes, cond := s.cond, out := s.out, mgmt := s.mgmt, tx := { t.tx with rep := s.tx.rep }
    store := { t.store with pages := s.store.pages, reads := s.store.reads } }) h' :)

theorem RampsOver.passed (h : RampsOver s t) (k : LaneId) : Passed k s t := by
  have out : t.out = s.out := (congrArg State.out h.rest :)
  have store : { t.store with pages := s.store.pages } = s.store := (congrArg State.store h.rest :)
  have reads : t.store.reads = s.store.reads := (congrArg Store.reads store :)
  exact ⟨by rw [out], by rw [out], by rw [reads], h.stays k, h.config k⟩

theorem RampsOver.aside (h : RampsOver s t) : KeptAside s t :=
  (congrArg (fun x : State => { x with
    lanes := s.lanes, routes := s.routes, cond := s.cond, out := s.out, mgmt := s.mgmt, tx := { x.tx with rep := s.tx.rep }
    store := { x.store with pages := s.store.pages, reads := s.store.reads } }) h.rest :)

theorem Turned.passed (h : Turned i s t) (hk : k ≠ i) : Passed k s t :=
  ⟨h.frame_ne hk, h.reg_ne hk, h.reads_ne hk, fun _ => h.lane_ne k hk, fun q c _ _ hc => by rw [h.route q]; exact hc⟩

theorem Turned.aside (h : Turned i s t) : KeptAside s t :=
  (congrArg (fun x : State => { x with
    lanes := s.lanes, routes := s.routes, cond := s.cond, out := s.out, mgmt := s.mgmt, tx := { x.tx with rep := s.tx.rep }
    store := { x.store with pages := s.store.pages, reads := s.store.reads } }) h.rest :)

/-- A lane's turn in its order: ramps that are at their end, unless the lane is in STOP, and then its turn. -/
theorem laneInOrder_stop (h : (s.lane i).state = .stop) : s.laneInOrder i = s.laneTurn i := if_pos h

theorem laneInOrder_bound (h : (s.lane i).state ≠ .stop) : s.laneInOrder i = s.endRamps.laneTurn i := if_neg h

theorem laneInOrder_passed (hk : k ≠ i) : Passed k s (s.laneInOrder i) := by
  by_cases h : (s.lane i).state = .stop
  · rw [laneInOrder_stop h]
    exact (laneTurn_turned i).passed hk
  · rw [laneInOrder_bound h]
    exact (endRamps_over.passed k).trans ((laneTurn_turned i).passed hk)

theorem laneInOrder_aside : KeptAside s (s.laneInOrder i) := by
  by_cases h : (s.lane i).state = .stop
  · rw [laneInOrder_stop h]
    exact (laneTurn_turned i).aside
  · rw [laneInOrder_bound h]
    exact endRamps_over.aside.trans (laneTurn_turned i).aside

/-- The turns of a list of lanes. -/
def State.turns (l : List LaneId) (s : State) : State := l.foldl (fun s i => s.laneInOrder i) s

theorem turns_passed : ∀ (l : List LaneId) (s : State), k ∉ l → Passed k s (s.turns l)
  | [], _, _ => .refl
  | _ :: l, _, hk => by
    rw [List.mem_cons, not_or] at hk
    exact (laneInOrder_passed hk.1).trans (turns_passed l _ hk.2)

theorem turns_aside : ∀ (l : List LaneId) (s : State), KeptAside s (s.turns l)
  | [], _ => rfl
  | _ :: l, _ => laneInOrder_aside.trans (turns_aside l _)

theorem turns_append (l m : List LaneId) : s.turns (l ++ m) = (s.turns l).turns m := List.foldl_append

theorem lanesTurn_eq : s.lanesTurn = (s.turns allLanes).arbitrate := rfl

/-- The lanes before the lane and those after it. -/
theorem allLanes_split (i : LaneId) : ∃ pre post, allLanes = pre ++ i :: post ∧ (∀ j, j ∈ pre ↔ j < i) ∧
    (∀ j, j ∈ post ↔ i < j) ∧ post.Nodup := by
  have h : allLanes = (allLanes.filter (· < i)) ++ i :: (allLanes.filter (i < ·)) ∧ (∀ j, j ∈ allLanes.filter (· < i) ↔ j < i) ∧
      (∀ j, j ∈ allLanes.filter (i < ·) ↔ i < j) ∧ (allLanes.filter (i < ·)).Nodup := by
    revert i
    decide
  exact ⟨_, _, h⟩

/-- The instant as the lane `i` sees it: the turns before its own, its own, and those after. -/
theorem turns_seen (i : LaneId) : ∃ pre post, (∀ j, j ∈ pre ↔ j < i) ∧ (∀ j, j ∈ post ↔ i < j) ∧ post.Nodup ∧
    s.turns allLanes = ((s.turns pre).laneInOrder i).turns post ∧ Passed i s (s.turns pre) ∧
    Passed i ((s.turns pre).laneInOrder i) (s.turns allLanes) := by
  obtain ⟨pre, post, split, earlier, later, nodup⟩ := allLanes_split i
  have hpre : i ∉ pre := fun h => lt_irrefl i ((earlier i).mp h)
  have hpost : i ∉ post := fun h => lt_irrefl i ((later i).mp h)
  have turns : s.turns allLanes = ((s.turns pre).laneInOrder i).turns post := by
    rw [split, turns_append]
    rfl
  refine ⟨pre, post, earlier, later, nodup, turns, turns_passed pre s hpre, ?_⟩
  rw [turns]
  exact turns_passed post _ hpost

/-! ### Ports and reads of an instant -/

/-- A lane whose ramp is not at its end finds its own record at its turn, and the port as it stood. -/
theorem laneInOrder_turn (still : ¬ (s.lane i).rampOver) : ∃ u : State, s.laneInOrder i = u.laneTurn i ∧ u.lane i = s.lane i ∧
    u.out = s.out ∧ (∀ q c, (s.lane i).route = some q → (s.route q).config = some c → (u.route q).config = some c) ∧
    u.slots = s.slots ∧ u.time = s.time := by
  by_cases h : (s.lane i).state = .stop
  · exact ⟨s, laneInOrder_stop h, rfl, rfl, fun _ _ _ hc => hc, rfl, rfl⟩
  · have isOver := endRamps_over (s := s)
    exact ⟨s.endRamps, laneInOrder_bound h, isOver.stays i still, (congrArg State.out isOver.rest :),
      fun q c hr hc => isOver.config i q c still hr hc, (congrArg State.slots isOver.rest :), (congrArg State.time isOver.rest :)⟩

theorem shapePair_zero (plan : Plan) (gain : Nat) :
    shapePair { plan := plan, depth := 0, gain := gain, ramp := none } 0 0 = { left := 0, right := 0 } := by
  have value : shapeValue { plan := plan, depth := 0, gain := gain, ramp := none } 0 = 0 := by
    simp [shapeValue, attenuate, applyGain, applyRamp, saturate, clampInt]
  have pair : applyPlan plan 0 0 = (0, 0) := by cases plan <;> rfl
  unfold shapePair
  dsimp only
  rw [pair, value]

/-- R149, R150: a lane in STOP or WAIT hands on silence and asks for no read. -/
theorem laneTurn_silent (h : (s.lane i).state = .stop ∨ (s.lane i).state = .wait) :
    (s.laneTurn i).out.reg[i] = { left := 0, right := 0 } ∧ (s.laneTurn i).store.reads[i] = [] := by
  have silent : ∀ u : State, (u.handSilence i).out.reg[i] = { left := 0, right := 0 } ∧ (u.handSilence i).store.reads[i] = [] :=
    fun u => ⟨(Vector.getElem_set_self _).trans (shapePair_zero _ _), Vector.getElem_set_self _⟩
  unfold State.laneTurn
  rcases h with h | h
  · rw [h]
    exact silent s
  · rw [h]
    exact silent (s.waitTurn i)

theorem laneTurn_stop (h : (s.lane i).state = .stop) : (s.laneTurn i).lane i = s.lane i := by
  unfold State.laneTurn
  rw [h]
  rfl

/-- What the lanes' turns of an instant make of one lane's port, reads and, in STOP, record. -/
theorem turns_lane (i : LaneId) (still : ¬ (s.lane i).rampOver) : (s.turns allLanes).out.frame[i] = s.out.reg[i] ∧
    ((s.lane i).state = .stop → (s.turns allLanes).lane i = s.lane i) ∧
    ((s.lane i).state = .stop ∨ (s.lane i).state = .wait → (s.turns allLanes).out.reg[i] = { left := 0, right := 0 } ∧
      (s.turns allLanes).store.reads[i] = []) := by
  obtain ⟨pre, -, -, -, -, -, before, after⟩ := turns_seen (s := s) i
  have own := before.lane still
  obtain ⟨u, turn, lane, out, -⟩ := laneInOrder_turn (s := s.turns pre) (i := i) (by rwa [own])
  rw [turn] at after
  have turned := laneTurn_turned (s := u) i
  rw [own] at lane
  refine ⟨?_, fun stop => ?_, fun idle => ?_⟩
  · rw [after.frame, turned.frame_self, out, before.reg]
  · have same : (u.laneTurn i).lane i = s.lane i := by rw [laneTurn_stop (by rw [lane]; exact stop), lane]
    rw [after.lane (by rw [same]; exact still), same]
  · obtain ⟨reg, reads⟩ := laneTurn_silent (s := u) (i := i) (by rw [lane]; exact idle)
    exact ⟨after.reg.trans reg, after.reads.trans reads⟩

/-! ### The whole instant -/

/-- R34, R122, R171: what the turns and the grant leave of the part. -/
structure InstantLeft (s t : State) : Prop where
  lanes : ∀ i : LaneId, t.out.frame[i] = s.out.reg[i] ∧ ((s.lane i).state = .stop → t.lane i = s.lane i) ∧
    ((s.lane i).state = .stop ∨ (s.lane i).state = .wait → t.out.reg[i] = { left := 0, right := 0 })
  granted : ∃ reads : Vector (List Nat) 4,
    (∀ i : LaneId, (s.lane i).state = .stop ∨ (s.lane i).state = .wait → reads[i] = []) ∧
    Granted { s.store with reads := reads, pages := t.store.pages } t.store
  time : t.time = s.time
  kept : t.pins = s.pins ∧ t.rx = s.rx ∧ t.slots = s.slots ∧ t.tx.src = s.tx.src ∧ t.tx.snd = s.tx.snd ∧ t.tx.ret = s.tx.ret ∧
    t.tx.departing = s.tx.departing ∧ t.store.mem = s.store.mem ∧ t.store.placement = s.store.placement ∧ t.pending = s.pending

theorem lanesTurn_left (still : ∀ k, ¬ (s.lane k).rampOver) : InstantLeft s s.lanesTurn ∧ s.lanesTurn.sense = s.sense := by
  have lanes : ∀ i, _ := fun i => turns_lane i (still i)
  have aside := turns_aside allLanes s
  rw [lanesTurn_eq]
  generalize s.turns allLanes = u at lanes aside
  obtain ⟨burst, reads, granted⟩ := arbitrate_frame (s := u)
  have grant := arbitrate_granted (s := u)
  rw [granted] at grant ⊢
  unfold KeptAside at aside
  have store : { u.store with pages := s.store.pages, reads := s.store.reads } = s.store := (congrArg State.store aside :)
  have tx : { u.tx with rep := s.tx.rep } = s.tx := (congrArg State.tx aside :)
  have whole : u.store = { s.store with reads := u.store.reads, pages := u.store.pages } := by
    rw [← store]
  refine ⟨⟨fun i => ⟨(lanes i).1, (lanes i).2.1, fun idle => ((lanes i).2.2 idle).1⟩,
    ⟨u.store.reads, fun i idle => ((lanes i).2.2 idle).2, ?_⟩, (congrArg State.time aside :),
    (congrArg State.pins aside :), (congrArg State.rx aside :), (congrArg State.slots aside :), (congrArg Transmitter.src tx :),
    (congrArg Transmitter.snd tx :), (congrArg Transmitter.ret tx :), (congrArg Transmitter.departing tx :),
    (congrArg Store.mem store :), (congrArg Store.placement store :), (congrArg State.pending aside :)⟩,
    (congrArg State.sense aside :)⟩
  exact (congrArg (fun x => Granted x { u.store with burst := burst, reads := reads }) whole).mp grant

/-! ### The sense pins at the instant -/

/-- R84, R166: a lane in STOP or WAIT keeps its record at a cause with destination WAIT, and no lane leaves STOP or WAIT. -/
theorem afterWaitCause_idle (now : Time) {l : Lane} (h : l.state = .stop ∨ l.state = .wait) : afterWaitCause now l = l := by
  unfold afterWaitCause
  rcases h with h | h <;> rw [h]

theorem afterWaitCause_quiet (now : Time) {l : Lane} (h : l.quiet = true) : (afterWaitCause now l).quiet = true := by
  unfold afterWaitCause
  cases hs : l.state with
  | play => simp [Lane.quiet, rampingDown, Config.rampLength]
  | prime => rfl
  | stop | wait | rampdown => exact h

/-- What the sense pins leave of the lanes and of the rest of the part. -/
structure SensesLeft (u v : State) : Prop where
  lane : ∀ i, v.lane i = u.lane i ∨ v.lane i = afterWaitCause u.time.lmc (u.lane i)
  config : ∀ r, (v.route r).config = (u.route r).config
  out : v.out = u.out
  store : v.store = u.store
  time : v.time = u.time
  slots : v.slots = u.slots
  pins : v.pins = u.pins
  rx : v.rx = u.rx
  tx : v.tx = u.tx
  pending : v.pending = u.pending

theorem sensesTaken_left {sns0 sns1 : Bool} {u v : State} (h : SensesTaken sns0 sns1 u v) : SensesLeft u v := by
  obtain ⟨-, -, -, moves, stays, rest⟩ := h
  have lanes : (∀ i, v.lane i = u.lane i ∨ v.lane i = afterWaitCause u.time.lmc (u.lane i)) ∧
      ∀ r, (v.route r).config = (u.route r).config := by
    by_cases hm : u.muted = false ∧ ((acceptedInput (sampledInput sns0 (u.input 0))).latch = true
        ∨ (acceptedInput (sampledInput sns1 (u.input 1))).latch = true)
    · obtain ⟨lane, routes⟩ := moves hm
      exact ⟨fun i => .inr (lane i), fun r => by rw [routes.kept r]⟩
    · obtain ⟨lanes, routes⟩ := stays hm
      unfold State.lane State.route
      rw [lanes, routes]
      exact ⟨fun _ => .inl rfl, fun _ => rfl⟩
  exact ⟨lanes.1, lanes.2, (congrArg State.out rest :), (congrArg State.store rest :), (congrArg State.time rest :),
    (congrArg State.slots rest :), (congrArg State.pins rest :), (congrArg State.rx rest :), (congrArg State.tx rest :),
    (congrArg State.pending rest :)⟩

theorem SensesLeft.idle {u v : State} (h : SensesLeft u v) (hi : (u.lane i).state = .stop ∨ (u.lane i).state = .wait) :
    v.lane i = u.lane i := by
  rcases h.lane i with same | moved
  · exact same
  · rw [moved, afterWaitCause_idle _ hi]

theorem SensesLeft.quiet {u v : State} (h : SensesLeft u v) (hi : (u.lane i).quiet = true) : (v.lane i).quiet = true := by
  rcases h.lane i with same | moved
  · rw [same]
    exact hi
  · rw [moved]
    exact afterWaitCause_quiet _ hi

/-- R166: an instant after the sense pins, as the part before them sees it. -/
theorem InstantLeft.before {u v : State} (h : InstantLeft v t) (senses : SensesLeft u v) : InstantLeft u t := by
  obtain ⟨lanes, ⟨reads, noReads, granted⟩, time, kept⟩ := h
  have idle : ∀ i : LaneId, (u.lane i).state = .stop ∨ (u.lane i).state = .wait → v.lane i = u.lane i := fun i => senses.idle
  rw [senses.out] at lanes
  rw [senses.store] at granted kept
  rw [senses.pins, senses.rx, senses.slots, senses.tx, senses.pending] at kept
  refine ⟨fun i => ⟨(lanes i).1, fun stop => ?_, fun hi => (lanes i).2.2 (by rw [idle i hi]; exact hi)⟩,
    ⟨reads, fun i hi => noReads i (by rw [idle i hi]; exact hi), granted⟩, time.trans senses.time, kept⟩
  rw [(lanes i).2.1 (by rw [idle i (.inl stop)]; exact stop), idle i (.inl stop)]

/-- An instant, the inputs accepted after the lanes' turns or before them. -/
theorem instantActs_left (quiet : ∀ k, (s.lane k).quiet = true) (sns0 sns1 first : Bool) :
    let x := sampledInput sns0 (s.input 0)
    let y := sampledInput sns1 (s.input 1)
    InstantLeft s (s.instantActs sns0 sns1 first) ∧
      (s.instantActs sns0 sns1 first).input 0 = (if first then acceptedInput x else x) ∧
      (s.instantActs sns0 sns1 first).input 1 = (if first then acceptedInput y else y) := by
  intro x y
  cases first with
  | false =>
    obtain ⟨left, sense⟩ := lanesTurn_left fun k => not_rampOver_of_quiet (quiet k)
    rw [instantActs_after]
    generalize s.lanesTurn = w at left sense ⊢
    have input : ∀ k, w.input k = s.input k := fun k => by
      unfold State.input
      rw [sense]
    obtain ⟨in0, in1⟩ := samplePins_input (s := w) sns0 sns1
    rw [in0, in1, input, input]
    exact ⟨⟨left.lanes, left.granted, left.time, left.kept⟩, rfl, rfl⟩
  | true =>
    have taken := senses_taken (s := s) sns0 sns1
    have senses := sensesTaken_left taken
    obtain ⟨in0, in1, -⟩ := taken
    rw [instantActs_before]
    generalize s.senses sns0 sns1 = v at *
    obtain ⟨left, sense⟩ := lanesTurn_left fun k => not_rampOver_of_quiet (senses.quiet (quiet k))
    have input : ∀ k, v.lanesTurn.input k = v.input k := fun k => by
      unfold State.input
      rw [sense]
    rw [input, input]
    exact ⟨left.before senses, in0, in1⟩

/-- A part whose sense pins have just been taken owes no act. -/
theorem sensesTaken_ready {now : Time} {sns0 sns1 : Bool} {v : State} (h : SensesTaken sns0 sns1 (s.clockTo now) v)
    (ready : Ready s) : Ready v := by
  have left := sensesTaken_left h
  obtain ⟨in0, in1, -⟩ := h
  obtain ⟨store, slots, lanes, -⟩ := quiet_iff.mp ready.quiet
  refine ⟨by rw [left.pins, State.clockTo_pins]; exact ready.released, quiet_iff.mpr ⟨?_, fun i => ?_, fun i => ?_, ?_⟩⟩
  · rw [left.store, State.clockTo_store]
    exact store
  · unfold State.slot
    rw [left.slots, State.clockTo_slots]
    exact slots i
  · exact left.quiet (by rw [State.clockTo_lane]; exact lanes i)
  · rw [Fin.forall_fin_two (p := fun i => (v.input i).quiet = true), in0, in1]
    exact ⟨decide_eq_true (acceptedInput_run _), decide_eq_true (acceptedInput_run _)⟩

end Sys2Proof.Machine

namespace Sys2Proof.Proofs

open Sys2Proof.Machine Sys2Proof.Safety

/-- Settles O25: the turns and the grant, with the sense pins after them or before. -/
theorem instantTaken : Obligations.InstantTaken := by
  unfold Obligations.InstantTaken
  intro s now sns0 sns1 first h
  refine ⟨fun due => ?_, fun due => ?_, fun undue => by rw [exec_outputInstant h, outputInstant_undue undue]⟩
  · rw [exec_outputInstant h, outputInstant_due due]
    have quiet : ∀ k, ((s.clockTo now).marked.lane k).quiet = true := fun k => by
      rw [show (s.clockTo now).marked.lane k = (s.clockTo now).lane k from rfl, State.clockTo_lane]
      exact (quiet_iff.mp h.quiet).2.2.1 k
    have lane : ∀ i, (s.clockTo now).marked.lane i = s.lane i := State.clockTo_lane s now
    have input : ∀ i, (s.clockTo now).marked.input i = s.input i := State.clockTo_input s now
    have out : (s.clockTo now).marked.out = s.out := State.clockTo_out s now
    have store : (s.clockTo now).marked.store = s.store := State.clockTo_store s now
    have pins : (s.clockTo now).marked.pins = s.pins := State.clockTo_pins s now
    have rx : (s.clockTo now).marked.rx = s.rx := State.clockTo_rx s now
    have slots : (s.clockTo now).marked.slots = s.slots := State.clockTo_slots s now
    have tx : (s.clockTo now).marked.tx = s.tx := State.clockTo_tx s now
    have pending : (s.clockTo now).marked.pending = s.pending := State.clockTo_pending s now
    obtain ⟨⟨lanes, granted, time, kept⟩, in0, in1⟩ := instantActs_left quiet sns0 sns1 first
    simp only [lane, input, out, store, pins, rx, slots, tx, pending] at lanes granted kept in0 in1
    exact ⟨_, rfl, time, fun i => (lanes i).1, fun i => (lanes i).2.1, fun i => (lanes i).2.2, granted, ⟨in0, in1⟩, kept⟩
  · have taken := senses_taken (s := s.clockTo now) sns0 sns1
    have ready := sensesTaken_ready taken h
    have left := sensesTaken_left taken
    have before : (s.clockTo now).outputInstant sns0 sns1 true = ((s.clockTo now).senses sns0 sns1).marked.lanesTurn := by
      rw [outputInstant_due due, instantActs_before, senses_marked]
    generalize (s.clockTo now).senses sns0 sns1 = v at *
    have lmc : v.time.lmc = now := by rw [left.time, State.clockTo_lmc]
    have here : v.clockTo now = v := if_pos lmc.symm
    have due' : InstantDue now v := ⟨due.multiple, .inr (by rw [left.time]; exact marked_of_due due)⟩
    have quiet : ∀ k, ¬ (v.marked.lane k).rampOver := fun k => not_rampOver_of_ready ready k
    obtain ⟨-, sense⟩ := lanesTurn_left quiet
    have after := outputInstant_due due' sns0 sns1 false
    rw [here, instantActs_after] at after
    refine ⟨v, _, taken, (exec_outputInstant ready now sns0 sns1 false).trans (by rw [here, after]), ?_⟩
    rw [exec_outputInstant h, before]
    generalize v.marked.lanesTurn = w at sense ⊢
    have sense' : w.sense = v.sense := sense
    rw [← sense']
    rfl

end Sys2Proof.Proofs
end

section
/-! O26: the playhead at an output instant (R136 to R138, R141). -/

namespace Sys2Proof.Machine

open Sys2Proof.Safety

variable {s t u : State} {i : LaneId}

/-! ### A lane that goes on playing -/

/-- R140, R142: what frame entries and a realign may make of a lane: its playhead and binding stand, and it plays or ramps down
as before, or begins a ramp-down out of PLAY. -/
structure GoesOn (l l' : Lane) : Prop where
  playhead : l'.playhead = l.playhead
  route : l'.route = l.route
  state : l'.state = l.state ∧ l'.ramp = l.ramp ∨
    l.state = .play ∧ l'.state = .rampdown ∧ ∃ level dest, l'.ramp = some (.down 1 level dest)

theorem GoesOn.refl (l : Lane) : GoesOn l l := ⟨rfl, rfl, .inl ⟨rfl, rfl⟩⟩

theorem GoesOn.trans {a b c : Lane} (h : GoesOn a b) (h' : GoesOn b c) : GoesOn a c := by
  refine ⟨h'.playhead.trans h.playhead, h'.route.trans h.route, ?_⟩
  rcases h.state with ⟨hs, hr⟩ | ⟨play, down, ramp⟩
  · rcases h'.state with ⟨hs', hr'⟩ | ⟨play, down⟩
    · exact .inl ⟨hs'.trans hs, hr'.trans hr⟩
    · exact .inr ⟨hs ▸ play, down⟩
  · rcases h'.state with ⟨hs', hr'⟩ | ⟨play', -⟩
    · exact .inr ⟨play, hs'.trans down, by rw [hr']; exact ramp⟩
    · rw [down] at play'
      cases play'

theorem GoesOn.plays {l l' : Lane} (h : GoesOn l l') (hs : l.state = .play ∨ l.state = .rampdown) :
    l'.state = .play ∨ l'.state = .rampdown := by
  rcases h.state with ⟨same, -⟩ | ⟨-, down, -⟩
  · exact same ▸ hs
  · exact .inr down

theorem rampDown_goesOn {l : Lane} (h : l.state = .play) (dest : Destination) : GoesOn l (l.rampDown dest) :=
  ⟨rfl, rfl, .inr ⟨h, rfl, _, _, rfl⟩⟩

theorem modLane_goesOn {f : Lane → Lane} (h : GoesOn (s.lane i) (f (s.lane i))) : GoesOn (s.lane i) ((s.modLane i f).lane i) := by
  rw [State.modLane_lane_self]
  exact h

theorem landAtEntry_goesOn (i : LaneId) : GoesOn (s.lane i) ((s.landAtEntry i).lane i) := by
  unfold State.landAtEntry
  split
  · next v play _ =>
    split
    · split
      · refine modLane_goesOn ⟨rfl, rfl, .inr ⟨play, rfl, _, _, rfl⟩⟩
      · exact modLane_goesOn ⟨rfl, rfl, .inl ⟨rfl, rfl⟩⟩
    · exact modLane_goesOn ⟨rfl, rfl, .inl ⟨rfl, rfl⟩⟩
  · exact .refl _

theorem concealNext_goesOn (i : LaneId) (r : RouteId) (c : RouteConfig) (f : CurrentFrame) :
    GoesOn (s.lane i) ((s.concealNext i r c f).lane i) := by
  unfold State.concealNext
  rw [recompute_lane]
  exact modLane_goesOn (f := Lane.conceal c f) ⟨rfl, rfl, .inl ⟨rfl, rfl⟩⟩

theorem frameEntry_goesOn (i : LaneId) : GoesOn (s.lane i) ((s.frameEntry i).lane i) := by
  refine (landAtEntry_goesOn i).trans ?_
  unfold State.frameEntry
  generalize s.landAtEntry i = u
  dsimp only
  have ramps : (u.lane i).state = .play → GoesOn (u.lane i) ((u.modLane i (Lane.rampDown .wait)).lane i) := fun play =>
    modLane_goesOn (rampDown_goesOn play .wait)
  split
  · next r c f _ _ =>
    split
    · next g _ =>
      rw [recompute_lane]
      exact modLane_goesOn (f := Lane.enter g) ⟨rfl, rfl, .inl ⟨rfl, rfl⟩⟩
    · next play => exact (ramps play).trans (concealNext_goesOn i _ _ _)
    · next play =>
      split
      · exact concealNext_goesOn i _ _ _
      · exact (ramps play).trans (concealNext_goesOn (s := (u.modLane i (Lane.rampDown .wait)).raise .starved) i _ _ _)
    · exact concealNext_goesOn i _ _ _
  · exact .refl _

theorem realign_goesOn (h : (s.lane i).state = .play) : GoesOn (s.lane i) ((s.realign i).lane i) :=
  modLane_goesOn (rampDown_goesOn h .wait)

theorem entryLoop_goesOn (i : LaneId) (fuel : Nat) : GoesOn (s.lane i) ((s.entryLoop i fuel).lane i) := by
  induction fuel generalizing s with
  | zero =>
    unfold State.entryLoop
    split
    · next h => exact realign_goesOn h.2
    · exact .refl _
  | succ fuel ih =>
    unfold State.entryLoop
    split
    · dsimp only
      split
      · exact frameEntry_goesOn i
      · exact (frameEntry_goesOn i).trans ih
    · exact .refl _

/-! ### The step (R136, R138) -/

/-- R136 stages 4 and 5: the lane's record after the hand-off and the playhead's advance. -/
def Lane.stepped (d : Int) (l : Lane) : Lane := { l with ramp := l.ramp.map Ramp.advance, playhead := l.playhead.map (· + BitVec.ofInt 64 d) }

/-- R144: the frame entries a step may make. -/
def State.entries (i : LaneId) (s : State) : State :=
  s.entryLoop i (match s.laneRoute i with | some (_, c) => c.depth | none => 0)

theorem stepFromEntry_eq (d : Int) : s.stepFromEntry i d = ((s.entries i).fetchAndHand i).modLane i (Lane.advance d) := rfl

theorem stepFromEntry_lane (d : Int) : (s.stepFromEntry i d).lane i = ((s.entries i).lane i).stepped d := by
  rw [stepFromEntry_eq, State.modLane_lane_self, fetchAndHand_handed, State.modLane_lane_self]
  rfl

/-- R136: the part that a step's frame entries start from, its error formed. -/
def State.realigned (i : LaneId) (s : State) : State := if mustRealign (s.lane i).state (s.errorOf i) then s.realign i else s

theorem playTurn_eq : s.playTurn i = (s.realigned i).stepFromEntry i (advanceOf (s.errorOf i)) := rfl

theorem mustRealign_play {st : LaneState} {e : Option (TimelineMap × Int)} (h : mustRealign st e = true) : st = .play := by
  unfold mustRealign at h
  split at h
  · rfl
  · cases h

theorem realigned_goesOn : GoesOn (s.lane i) ((s.realigned i).lane i) := by
  unfold State.realigned
  split
  · next h => exact realign_goesOn (mustRealign_play h)
  · exact .refl _

theorem playTurn_lane (i : LaneId) : ∃ l, GoesOn (s.lane i) l ∧ (s.playTurn i).lane i = l.stepped (advanceOf (s.errorOf i)) := by
  rw [playTurn_eq, stepFromEntry_lane]
  exact ⟨_, realigned_goesOn.trans (entryLoop_goesOn i _), rfl⟩

/-- R138: the advance in the terms of the spec. -/
theorem advanceOf_error {r : RouteId} {c : RouteConfig} {h : Playhead} (hr : (s.lane i).route = some r)
    (hc : (s.route r).config = some c) (hh : (s.lane i).playhead = some h) : advanceOf (s.errorOf i) =
      match (s.slot c.slot).map with
      | none => 33554432
      | some m => 33554432 + 2 * m.trim + max (-16384) (min 16384
          (headDist h (timeToHead (m.convert (s.time.lmc + BitVec.ofNat 48 (s.lane i).delay))) / 4096)) := by
  have map : s.laneMap i = (s.slot c.slot).map := by
    unfold State.laneMap State.laneRoute
    rw [hr]
    dsimp only
    rw [hc]
    rfl
  unfold State.errorOf
  rw [map, hh]
  cases (s.slot c.slot).map with
  | none => rfl
  | some m =>
    have target : s.target i m = m.convert (s.time.lmc + BitVec.ofNat 48 (s.lane i).delay) := by
      unfold State.target addTicks
      rw [BitVec.ofInt_natCast]
    dsimp only
    rw [advanceOf, slewOf, clampInt_eq_max_min, target]
    · rfl
    · decide

/-- R140: a ramp-down is at its end after the step exactly where this was its 64th. -/
theorem stepped_rampOver {l l' : Lane} (still : ¬ l.rampOver) (h : GoesOn l l') (d : Int) :
    (l'.stepped d).rampOver ↔ l.state = .rampdown ∧ ∃ level dest, l.ramp = some (.down 64 level dest) := by
  unfold Lane.rampOver Lane.stepped
  dsimp only
  rcases h.state with ⟨hs, hr⟩ | ⟨play, down, level, dest, ramp⟩
  · rw [hs, hr]
    constructor
    · rintro ⟨down, count, level, dest, adv, hc⟩
      cases hl : l.ramp with
      | none => simp [hl] at adv
      | some x =>
        cases x with
        | up m => simp [hl, Ramp.advance] at adv
        | down n m dest' =>
          simp only [hl, Option.map_some, Ramp.advance, Option.some.injEq, Ramp.down.injEq] at adv
          obtain ⟨rfl, -, -⟩ := adv
          have le : ¬ 64 < n := fun hn => still ⟨down, n, m, dest', hl, hn⟩
          obtain rfl : n = 64 := by omega
          exact ⟨down, m, dest', rfl⟩
    · rintro ⟨down, level, dest, hl⟩
      exact ⟨down, 65, _, _, by rw [hl]; rfl, by omega⟩
  · rw [ramp]
    constructor
    · rintro ⟨-, count, level', dest', adv, hc⟩
      simp only [Option.map_some, Ramp.advance, Option.some.injEq, Ramp.down.injEq] at adv
      omega
    · rintro ⟨rd, -⟩
      rw [play] at rd
      cases rd

/-! ### A ramp that ends before a later lane's turn -/

theorem turns_end : ∀ (l : List LaneId) (s : State), i ∉ l → l.Nodup → (s.lane i).rampOver →
    (∀ j ∈ l, ¬ (s.lane j).rampOver) →
    ((∃ j ∈ l, (s.lane j).state ≠ .stop) → ((s.turns l).lane i).landedIdle) ∧
      ((∀ j ∈ l, (s.lane j).state = .stop) → (s.turns l).lane i = s.lane i)
  | [], s, _, _, _, _ => ⟨fun ⟨_, hj, _⟩ => absurd hj List.not_mem_nil, fun _ => rfl⟩
  | j :: l, s, hi, nodup, isOver, still => by
    rw [List.mem_cons, not_or] at hi
    obtain ⟨new, nodup⟩ := List.nodup_cons.mp nodup
    have turns : s.turns (j :: l) = (s.laneInOrder j).turns l := rfl
    rw [turns]
    by_cases hs : (s.lane j).state = .stop
    · rw [laneInOrder_stop hs]
      have turned := laneTurn_turned (s := s) j
      have same : ∀ k, k ≠ j → (s.laneTurn j).lane k = s.lane k := turned.lane_ne
      have others : ∀ k ∈ l, (s.laneTurn j).lane k = s.lane k := fun k hk => same k fun hkj => new (hkj ▸ hk)
      obtain ⟨ends, stays⟩ := turns_end l (s.laneTurn j) hi.2 nodup (by rwa [same i hi.1])
        fun k hk => by rw [others k hk]; exact still k (by simp [hk])
      refine ⟨fun ⟨k, hk, hks⟩ => ends ?_, fun all => ?_⟩
      · have hkl : k ∈ l := (List.mem_cons.mp hk).resolve_left fun hkj => hks (hkj ▸ hs)
        exact ⟨k, hkl, by rwa [others k hkl]⟩
      · rw [stays fun k hk => by rw [others k hk]; exact all k (by simp [hk]), same i hi.1]
    · rw [laneInOrder_bound hs]
      have idle := endRamps_ended isOver
      have own := (laneTurn_turned (s := s.endRamps) j).lane_ne i hi.1
      have later := turns_passed l (s.endRamps.laneTurn j) hi.2
      refine ⟨fun _ => ?_, fun all => absurd (all j (by simp)) hs⟩
      rw [later.lane (by rw [own]; exact not_rampOver_of_landed idle), own]
      exact idle

theorem arbitrate_lane (k : LaneId) : s.arbitrate.lane k = s.lane k := by
  obtain ⟨burst, reads, granted⟩ := arbitrate_frame (s := s)
  rw [granted]
  rfl

/-! ### The playhead over the whole instant -/

/-- R136 stage 6: the lane's ramp-down ends before a later lane acts. -/
def endsFirst (i : LaneId) (s : State) : Prop :=
  (s.lane i).state = .rampdown ∧ (∃ level dest, (s.lane i).ramp = some (.down 64 level dest)) ∧
    ∃ j, i < j ∧ (s.lane j).state ≠ .stop

theorem laneTurn_playing (h : (s.lane i).state = .play ∨ (s.lane i).state = .rampdown) : s.laneTurn i = s.playTurn i := by
  unfold State.laneTurn
  rcases h with h | h <;> rw [h]

theorem lanesTurn_playhead {r : RouteId} {c : RouteConfig} {h : Playhead} (still : ∀ k, ¬ (s.lane k).rampOver)
    (hs : (s.lane i).state = .play ∨ (s.lane i).state = .rampdown) (hr : (s.lane i).route = some r)
    (hc : (s.route r).config = some c) (hh : (s.lane i).playhead = some h) :
    (¬ endsFirst i s → (s.lanesTurn.lane i).playhead = some (h + BitVec.ofInt 64 (advanceOf (s.errorOf i)))
      ∧ ((s.lanesTurn.lane i).state = .play ∨ (s.lanesTurn.lane i).state = .rampdown)) ∧
    (endsFirst i s → (s.lanesTurn.lane i).landedIdle) := by
  rw [lanesTurn_eq, arbitrate_lane]
  obtain ⟨pre, post, earlier, later, nodup, turns, before, after⟩ := turns_seen (s := s) i
  have own := before.lane (still i)
  obtain ⟨v, turn, lane, -, config, slots, time⟩ := laneInOrder_turn (s := s.turns pre) (i := i) (by rw [own]; exact still i)
  rw [own] at lane config
  have aside := turns_aside pre s
  have slots' : v.slots = s.slots := slots.trans (congrArg State.slots aside :)
  have time' : v.time = s.time := time.trans (congrArg State.time aside :)
  have hc' : (v.route r).config = some c := config r c hr (before.config r c (still i) hr hc)
  have error : advanceOf (v.errorOf i) = advanceOf (s.errorOf i) := by
    rw [advanceOf_error (by rw [lane]; exact hr) hc' (by rw [lane]; exact hh), advanceOf_error hr hc hh, lane, time']
    unfold State.slot
    rw [slots']
  obtain ⟨l, goes, stepped⟩ := playTurn_lane (s := v) i
  rw [lane] at goes
  rw [← laneTurn_playing (by rw [lane]; exact hs), ← turn, error] at stepped
  have isOver := stepped_rampOver (still i) goes (advanceOf (s.errorOf i))
  have playhead : (l.stepped (advanceOf (s.errorOf i))).playhead = some (h + BitVec.ofInt 64 (advanceOf (s.errorOf i))) := by
    unfold Lane.stepped
    rw [goes.playhead, hh]
    rfl
  have plays : (l.stepped (advanceOf (s.errorOf i))).state = .play ∨ (l.stepped (advanceOf (s.errorOf i))).state = .rampdown :=
    goes.plays hs
  have others : ∀ j ∈ post, ((s.turns pre).laneInOrder i).lane j = s.lane j := fun j hj => by
    have hij := (later j).mp hj
    have earlier' : j ∉ pre := fun h => lt_asymm hij ((earlier j).mp h)
    exact ((turns_passed pre s earlier').trans (laneInOrder_passed (ne_of_gt hij))).lane (still j)
  have ended := turns_end (i := i) post ((s.turns pre).laneInOrder i) (fun h => lt_irrefl i ((later i).mp h)) nodup
  rw [stepped] at ended
  by_cases h64 : (l.stepped (advanceOf (s.errorOf i))).rampOver
  · obtain ⟨ends, stays⟩ := ended h64 fun j hj => by rw [others j hj]; exact still j
    rw [← turns] at ends stays
    refine ⟨fun hn => ?_, fun hy => ends ?_⟩
    · rw [stays fun j hj => ?_]
      · exact ⟨playhead, plays⟩
      · by_contra hjs
        rw [others j hj] at hjs
        obtain ⟨down, ramp⟩ := isOver.mp h64
        exact hn ⟨down, ramp, j, (later j).mp hj, hjs⟩
    · obtain ⟨-, -, j, hij, hjs⟩ := hy
      exact ⟨j, (later j).mpr hij, by rwa [others j ((later j).mpr hij)]⟩
  · have same := after.lane (by rw [stepped]; exact h64)
    rw [same, stepped]
    exact ⟨fun _ => ⟨playhead, plays⟩, fun hy => absurd (isOver.mpr ⟨hy.1, hy.2.1⟩) h64⟩

/-! ### The sense pins before the turns -/

/-- R84, R140: a cause with destination WAIT leaves a lane that plays or ramps down doing so, under its settings. -/
theorem afterWaitCause_goesOn (now : Time) {l : Lane} (h : l.state = .play ∨ l.state = .rampdown) :
    GoesOn l (afterWaitCause now l) ∧ (afterWaitCause now l).delay = l.delay := by
  unfold afterWaitCause
  rcases h with h | h
  · rw [h]
    exact ⟨⟨rfl, rfl, .inr ⟨h, rfl, _, _, rfl⟩⟩, rfl⟩
  · rw [h]
    exact ⟨.refl l, rfl⟩

theorem afterWaitCause_stop (now : Time) (l : Lane) : (afterWaitCause now l).state = .stop ↔ l.state = .stop := by
  unfold afterWaitCause
  cases h : l.state <;> simp [rampingDown, h]

theorem SensesLeft.playing {v : State} (h : SensesLeft s v) (hs : (s.lane i).state = .play ∨ (s.lane i).state = .rampdown) :
    GoesOn (s.lane i) (v.lane i) ∧ (v.lane i).delay = (s.lane i).delay := by
  rcases h.lane i with same | moved
  · rw [same]
    exact ⟨.refl _, rfl⟩
  · rw [moved]
    exact afterWaitCause_goesOn _ hs

theorem SensesLeft.endsFirst_iff {v : State} (h : SensesLeft s v)
    (hs : (s.lane i).state = .play ∨ (s.lane i).state = .rampdown) : endsFirst i v ↔ endsFirst i s := by
  have stop : ∀ j, (v.lane j).state ≠ .stop ↔ (s.lane j).state ≠ .stop := fun j => by
    rcases h.lane j with same | moved
    · rw [same]
    · rw [moved, Ne, afterWaitCause_stop]
  unfold endsFirst
  simp only [stop]
  rcases (h.playing hs).1.state with ⟨same, ramp⟩ | ⟨play, down, level, dest, ramp⟩
  · rw [same, ramp]
  · rw [play, down, ramp]
    simp

/-- R136, R141: the playhead over the instant, the sense pins taken after the turns or before them. -/
theorem instantActs_playhead {r : RouteId} {c : RouteConfig} {h : Playhead} (quiet : ∀ k, (s.lane k).quiet = true)
    (hs : (s.lane i).state = .play ∨ (s.lane i).state = .rampdown) (hr : (s.lane i).route = some r)
    (hc : (s.route r).config = some c) (hh : (s.lane i).playhead = some h) (sns0 sns1 first : Bool) :
    (¬ endsFirst i s →
      ((s.instantActs sns0 sns1 first).lane i).playhead = some (h + BitVec.ofInt 64 (advanceOf (s.errorOf i)))
        ∧ (((s.instantActs sns0 sns1 first).lane i).state = .play ∨ ((s.instantActs sns0 sns1 first).lane i).state = .rampdown)) ∧
    (endsFirst i s → ((s.instantActs sns0 sns1 first).lane i).landedIdle) := by
  cases first with
  | false =>
    have step := lanesTurn_playhead (i := i) (fun k => not_rampOver_of_quiet (quiet k)) hs hr hc hh
    rw [instantActs_after]
    generalize s.lanesTurn = w at step ⊢
    exact step
  | true =>
    have left := sensesTaken_left (senses_taken (s := s) sns0 sns1)
    rw [instantActs_before]
    generalize s.senses sns0 sns1 = v at left ⊢
    obtain ⟨goes, delay⟩ := left.playing hs
    have hr' : (v.lane i).route = some r := goes.route.trans hr
    have hc' : (v.route r).config = some c := (left.config r).trans hc
    have hh' : (v.lane i).playhead = some h := goes.playhead.trans hh
    have error : advanceOf (v.errorOf i) = advanceOf (s.errorOf i) := by
      rw [advanceOf_error hr' hc' hh', advanceOf_error hr hc hh, delay, left.time]
      unfold State.slot
      rw [left.slots]
    rw [← left.endsFirst_iff hs, ← error]
    exact lanesTurn_playhead (fun k => not_rampOver_of_quiet (left.quiet (quiet k))) (goes.plays hs) hr' hc' hh'

end Sys2Proof.Machine

namespace Sys2Proof.Proofs

open Sys2Proof.Machine Sys2Proof.Safety

/-- Settles O26: the step's advance is the lane's, and only a ramp-down that a later lane's turn ends takes the playhead away. -/
theorem playheadAdvances : Obligations.PlayheadAdvances := by
  unfold Obligations.PlayheadAdvances
  intro s now sns0 sns1 first i r c h ready due hs hr hc hh advance ends
  rw [exec_outputInstant ready, outputInstant_due due]
  refine ⟨_, rfl, ?_⟩
  have lane : ∀ k, (s.clockTo now).marked.lane k = s.lane k := State.clockTo_lane s now
  have route : (s.clockTo now).marked.route r = s.route r := State.clockTo_route s now r
  have slot : (s.clockTo now).marked.slot c.slot = s.slot c.slot := State.clockTo_slot s now c.slot
  have lmc : (s.clockTo now).marked.time.lmc = now := State.clockTo_lmc s now
  generalize (s.clockTo now).marked = u at *
  have step := instantActs_playhead (s := u) (i := i) (r := r) (c := c) (h := h)
    (fun k => by rw [lane]; exact (quiet_iff.mp ready.quiet).2.2.1 k) (by rw [lane]; exact hs)
    (by rw [lane]; exact hr) (by rw [route]; exact hc) (by rw [lane]; exact hh) sns0 sns1 first
  rw [advanceOf_error (by rw [lane]; exact hr) (by rw [route]; exact hc) (by rw [lane]; exact hh), slot, lane, lmc] at step
  have same : endsFirst i u ↔ ends := by
    unfold endsFirst
    simp only [lane]
    exact ⟨fun h => h, fun h => h⟩
  rw [same] at step
  obtain ⟨goes, ended⟩ := step
  exact ⟨goes, fun he => ⟨(ended he).2, (ended he).1⟩⟩

end Sys2Proof.Proofs
end

section
/-! An output instant of one lane, the others in STOP: the lanes in STOP change their ports and reads alone, and the lane's turn
does not look at those. -/

namespace Sys2Proof.Machine

open Sys2Proof.Safety

variable {s t u : State} {i : LaneId} {reads : Vector (List Nat) 4} {out : OutputPorts}

/-! ### Ports and reads replaced -/

/-- The part with other waiting reads and other ports. -/
def State.dressed (reads : Vector (List Nat) 4) (out : OutputPorts) (s : State) : State :=
  { s with store := { s.store with reads := reads }, out := out }

theorem recompute_dressed (r : RouteId) : (s.dressed reads out).recompute r = (s.recompute r).dressed reads out := by
  have holds : (s.dressed reads out).holds r = s.holds r := rfl
  have route : (s.dressed reads out).route r = s.route r := rfl
  unfold State.recompute
  rw [holds, route]
  split
  · rfl
  · split
    · rfl
    · split <;> rfl

theorem landAtEntry_dressed (i : LaneId) : (s.dressed reads out).landAtEntry i = (s.landAtEntry i).dressed reads out := by
  have lane : (s.dressed reads out).lane i = s.lane i := rfl
  unfold State.landAtEntry
  rw [lane]
  split
  · next v _ _ =>
    cases v.route with
    | none => rfl
    | some r =>
      have route : (s.dressed reads out).route r = s.route r := rfl
      dsimp only
      rw [route]
      split <;> rfl
  · rfl

theorem concealNext_dressed (i : LaneId) (r : RouteId) (c : RouteConfig) (f : CurrentFrame) :
    (s.dressed reads out).concealNext i r c f = (s.concealNext i r c f).dressed reads out :=
  recompute_dressed (s := ((s.modLane i (Lane.conceal c f)).bump r (fun k => { k with concealed := countUp k.concealed })).raise
    .concealed) r

theorem frameEntry_dressed (i : LaneId) : (s.dressed reads out).frameEntry i = (s.frameEntry i).dressed reads out := by
  unfold State.frameEntry
  rw [landAtEntry_dressed]
  generalize s.landAtEntry i = u
  have lane : (u.dressed reads out).lane i = u.lane i := rfl
  have laneRoute : (u.dressed reads out).laneRoute i = u.laneRoute i := rfl
  have route : ∀ r, (u.dressed reads out).route r = u.route r := fun _ => rfl
  dsimp only
  rw [lane, laneRoute]
  cases u.laneRoute i with
  | none => rfl
  | some x =>
    obtain ⟨r, c⟩ := x
    cases (u.lane i).current with
    | none => rfl
    | some f =>
      dsimp only
      rw [route]
      split
      · next g _ => exact recompute_dressed (s := u.modLane i (Lane.enter g)) r
      · exact concealNext_dressed (s := u.modLane i (Lane.rampDown .wait)) i r c f
      · split
        · exact concealNext_dressed i r c f
        · exact concealNext_dressed (s := (u.modLane i (Lane.rampDown .wait)).raise .starved) i r c f
      · exact concealNext_dressed i r c f

theorem entryLoop_dressed (i : LaneId) (fuel : Nat) :
    (s.dressed reads out).entryLoop i fuel = (s.entryLoop i fuel).dressed reads out := by
  have lane : ∀ u : State, (u.dressed reads out).lane i = u.lane i := fun _ => rfl
  induction fuel generalizing s with
  | zero =>
    unfold State.entryLoop
    rw [lane]
    split <;> rfl
  | succ fuel ih =>
    unfold State.entryLoop
    rw [lane]
    split
    · dsimp only
      rw [frameEntry_dressed, lane]
      split
      · rfl
      · exact ih
    · rfl

/-! ### Lanes in STOP -/

theorem handSilence_dressed (i : LaneId) : ∃ reads out, s.handSilence i = s.dressed reads out := ⟨_, _, rfl⟩

theorem laneTurn_stopped (h : (s.lane i).state = .stop) : s.laneTurn i = s.handSilence i := by
  unfold State.laneTurn
  rw [h]

theorem turns_stop : ∀ (l : List LaneId) (s : State), (∀ j ∈ l, (s.lane j).state = .stop) →
    ∃ reads out, s.turns l = s.dressed reads out
  | [], s, _ => ⟨s.store.reads, s.out, rfl⟩
  | j :: l, s, stop => by
    have turn : s.turns (j :: l) = (s.handSilence j).turns l := by
      have first : s.laneInOrder j = s.handSilence j := by
        rw [laneInOrder_stop (stop j (by simp)), laneTurn_stopped (stop j (by simp))]
      exact congrArg (State.turns l) first
    obtain ⟨reads, out, silent⟩ := handSilence_dressed (s := s) j
    rw [turn, silent]
    obtain ⟨reads', out', later⟩ := turns_stop l (s.dressed reads out) fun k hk => stop k (by simp [hk])
    exact ⟨reads', out', later⟩

/-- R122, R132: an instant of the lane `i`, the others in STOP. -/
structure SoleTurn (i : LaneId) (s y t : State) : Prop where
  lane : t.lane i = y.lane i
  others : ∀ j, j ≠ i → t.lane j = s.lane j
  routes : t.routes = y.routes
  cond : t.cond = y.cond
  reg : t.out.reg[i] = y.out.reg[i]
  granted : Granted { y.store with reads := (Vector.replicate 4 []).set i.val y.store.reads[i] i.isLt } t.store

theorem lanesTurn_sole (still : ∀ k, ¬ (s.lane k).rampOver) (stop : ∀ j, j ≠ i → (s.lane j).state = .stop) :
    ∃ reads out, SoleTurn i s ((s.dressed reads out).laneTurn i) s.lanesTurn := by
  obtain ⟨pre, post, earlier, later, -, turns, -, after⟩ := turns_seen (s := s) i
  obtain ⟨reads, out, before⟩ := turns_stop pre s fun j hj => stop j (ne_of_lt ((earlier j).mp hj))
  have turn : (s.turns pre).laneInOrder i = (s.dressed reads out).laneTurn i := by
    rw [before]
    by_cases h : ((s.dressed reads out).lane i).state = .stop
    · exact laneInOrder_stop h
    · rw [laneInOrder_bound h, endRamps_still (s := s.dressed reads out) still]
  refine ⟨reads, out, ?_⟩
  rw [turn] at turns after
  have turned := laneTurn_turned (s := s.dressed reads out) i
  generalize (s.dressed reads out).laneTurn i = y at turns after turned ⊢
  have others : ∀ j, j ≠ i → y.lane j = s.lane j := turned.lane_ne
  obtain ⟨reads', out', silent⟩ := turns_stop post y fun j hj => by
    have hji := ne_of_gt ((later j).mp hj)
    rw [others j hji]
    exact stop j hji
  rw [← turns] at silent
  have noReads : ∀ j, j ≠ i → (s.turns allLanes).store.reads[j] = [] := fun j hj =>
    ((turns_lane j (still j)).2.2 (.inl (stop j hj))).2
  have own : (s.turns allLanes).store.reads[i] = y.store.reads[i] := after.reads
  have reg : (s.turns allLanes).out.reg[i] = y.out.reg[i] := after.reg
  rw [lanesTurn_eq]
  generalize s.turns allLanes = x at *
  have all : x.store.reads = (Vector.replicate 4 []).set i.val y.store.reads[i] i.isLt := by
    refine Vector.ext fun k hk => ?_
    by_cases hki : k = i.val
    · subst hki
      rw [Vector.getElem_set_self]
      exact own
    · rw [Vector.getElem_set_ne _ _ (Ne.symm hki), Vector.getElem_replicate]
      exact noReads ⟨k, hk⟩ fun h => hki (congrArg Fin.val h)
  have store : x.store = { y.store with reads := (Vector.replicate 4 []).set i.val y.store.reads[i] i.isLt } := by
    rw [← all, silent]
    rfl
  obtain ⟨burst, reads'', granted⟩ := arbitrate_frame (s := x)
  have grant := arbitrate_granted (s := x)
  rw [store] at grant
  refine ⟨?_, fun j hj => ?_, ?_, ?_, ?_, grant⟩
  · rw [arbitrate_lane, silent]
    rfl
  · rw [arbitrate_lane, ← others j hj, silent]
    rfl
  · rw [granted, silent]
    rfl
  · rw [granted, silent]
    rfl
  · rw [granted]
    exact reg

/-- The same of the instant's whole, the sense pins sampled after the turns. -/
theorem instant_sole {now : Time} {sns0 sns1 : Bool} (ready : Ready s) (due : InstantDue now s)
    (stop : ∀ j, j ≠ i → (s.lane j).state = .stop) : ∃ reads out t, exec (.outputInstant now sns0 sns1 false) s = .next t ∧
      SoleTurn i (s.clockTo now).marked (((s.clockTo now).marked.dressed reads out).laneTurn i) t := by
  have lane : ∀ k, (s.clockTo now).marked.lane k = s.lane k := State.clockTo_lane s now
  obtain ⟨reads, out, sole⟩ := lanesTurn_sole (s := (s.clockTo now).marked) (i := i)
    (fun k => by rw [lane]; exact not_rampOver_of_ready ready k) fun j hj => by rw [lane]; exact stop j hj
  rw [exec_outputInstant ready, outputInstant_due due, instantActs_after]
  generalize (s.clockTo now).marked.lanesTurn = w at sole ⊢
  exact ⟨reads, out, _, rfl, ⟨sole.lane, sole.others, sole.routes, sole.cond, sole.reg, sole.granted⟩⟩

end Sys2Proof.Machine
end

section
/-! O29: the start test of a waiting lane (R129, R131 to R133, R115). -/

namespace Sys2Proof.Machine

open Sys2Proof.Safety

variable {s : State} {i : LaneId} {r : RouteId} {c : RouteConfig}

/-! ### A lane's route, map and target -/

theorem laneRoute_of (hr : (s.lane i).route = some r) (hc : (s.route r).config = some c) : s.laneRoute i = some (r, c) := by
  unfold State.laneRoute
  rw [hr]
  dsimp only
  rw [hc]
  rfl

theorem laneMap_of (hr : (s.lane i).route = some r) (hc : (s.route r).config = some c) : s.laneMap i = (s.slot c.slot).map := by
  unfold State.laneMap
  rw [laneRoute_of hr hc]

theorem target_eq (i : LaneId) (m : TimelineMap) : s.target i m = m.convert (s.time.lmc + BitVec.ofNat 48 (s.lane i).delay) := by
  unfold State.target addTicks
  rw [BitVec.ofInt_natCast]

/-! ### The start frame (R132) -/

/-- R132: a candidate of the directory for a target. -/
def startCandidate (target : Time) (dir : List DirEntry) (f : StoredFrame) : Prop :=
  .valid f ∈ dir ∧ 0 ≤ timeDist (addTicks target Config.primeMargin) f.pt

theorem startCandidate_cons (target : Time) (e : DirEntry) (dir : List DirEntry) (f : StoredFrame) :
    startCandidate target (e :: dir) f ↔ (e = .valid f ∧ isCandidate target f = true) ∨ startCandidate target dir f := by
  unfold startCandidate isCandidate
  rw [List.mem_cons, decide_eq_true_eq, or_and_right]
  exact or_congr_left (and_congr_left' eq_comm)

/-- R132: the frame chosen is a candidate, and no candidate lies nearer to the release point. -/
theorem startFrame_spec (rp : Seq) (target : Time) : ∀ dir : List DirEntry,
    match startFrame rp target dir with
    | some f => startCandidate target dir f ∧ ∀ g, startCandidate target dir g → seqDist rp f.seq ≤ seqDist rp g.seq
    | none => ∀ g, ¬ startCandidate target dir g
  | [] => fun g h => absurd h.1 List.not_mem_nil
  | e :: dir => by
    have later := startFrame_spec rp target dir
    unfold startFrame
    simp only [startCandidate_cons]
    cases e with
    | invalid =>
      cases hr : startFrame rp target dir with
      | none => simpa [hr] using later
      | some g => simpa [hr] using later
    | inPlacement q =>
      cases hr : startFrame rp target dir with
      | none => simpa [hr] using later
      | some g => simpa [hr] using later
    | valid x =>
      cases hr : startFrame rp target dir with
      | none =>
        rw [hr] at later
        by_cases hx : isCandidate target x = true
        · simp only [hx, and_self, if_true]
          refine ⟨.inl trivial, ?_⟩
          rintro g (⟨hg, -⟩ | hg)
          · cases hg
            exact le_refl _
          · exact absurd hg (later g)
        · simp only [hx]
          rintro g (⟨hg, hc⟩ | hg)
          · cases hg
            exact hx hc
          · exact later g hg
      | some g =>
        rw [hr] at later
        obtain ⟨mem, least⟩ := later
        by_cases hx : isCandidate target x = true ∧ seqDist rp x.seq < seqDist rp g.seq
        · simp only [hx, and_self, if_true]
          refine ⟨.inl trivial, ?_⟩
          rintro k (⟨hk, -⟩ | hk)
          · cases hk
            exact le_refl _
          · exact le_trans (le_of_lt hx.2) (least k hk)
        · simp only [hx, if_false]
          refine ⟨.inr mem, ?_⟩
          rintro k (⟨hk, hc⟩ | hk)
          · cases hk
            exact not_lt.mp fun hlt => hx ⟨hc, hlt⟩
          · exact least k hk

theorem startFrame_some {rp : Seq} {target : Time} {dir : List DirEntry} {f : StoredFrame} (hf : startCandidate target dir f)
    (least : ∀ g, startCandidate target dir g → g = f ∨ seqDist rp f.seq < seqDist rp g.seq) :
    startFrame rp target dir = some f := by
  have spec := startFrame_spec rp target dir
  cases h : startFrame rp target dir with
  | none =>
    rw [h] at spec
    exact absurd hf (spec f)
  | some g =>
    rw [h] at spec
    obtain ⟨hg, min⟩ := spec
    rcases least g hg with same | nearer
    · rw [same]
    · have := min f hf
      omega

theorem startFrame_none {rp : Seq} {target : Time} {dir : List DirEntry} (h : ∀ f, ¬ startCandidate target dir f) :
    startFrame rp target dir = none := by
  have spec := startFrame_spec rp target dir
  cases hf : startFrame rp target dir with
  | none => rfl
  | some g =>
    rw [hf] at spec
    exact absurd spec.1 (h g)

/-! ### The start test (R131) -/

/-- R131: the slot admits a start. -/
theorem admits_iff (g : GroupSlot) : g.admits = true ↔
    g.role = some .leader ∧ g.state = .leading ∨ g.role = some .follower ∧ g.state = .locked := by
  unfold GroupSlot.admits
  cases g.role with
  | none => simp
  | some role => cases role <;> simp

/-- R131: the route, the slot and the latches that let a lane start. -/
def startOpen (r : RouteId) (c : RouteConfig) (s : State) : Prop :=
  (s.route r).state = .live ∧ (s.slot c.slot).admits = true ∧ s.muted = false

theorem startTest_eq {rp : Seq} {m : TimelineMap} (hr : (s.lane i).route = some r) (hc : (s.route r).config = some c)
    (release : (s.route r).release = some rp) (map : (s.slot c.slot).map = some m) :
    (startOpen r c s → s.startTest i = startFrame rp (s.target i m) (s.route r).dir) ∧
      (¬ startOpen r c s → s.startTest i = none) := by
  have laneMap : s.laneMap i = some m := (laneMap_of hr hc).trans map
  have test : s.startTest i = if (s.route r).state = .live then
      if (s.slot c.slot).admits && !s.muted then startFrame rp (s.target i m) (s.route r).dir else none else none := by
    unfold State.startTest
    rw [laneRoute_of hr hc, laneMap]
    dsimp only
    rw [release]
    cases (s.route r).state <;> rfl
  rw [test]
  refine ⟨fun ⟨live, admits, unmuted⟩ => ?_, fun shut => ?_⟩
  · rw [if_pos live, if_pos (by rw [admits, unmuted]; rfl)]
  · by_cases live : (s.route r).state = .live
    · rw [if_pos live]
      refine if_neg fun h => shut ⟨live, ?_⟩
      rw [Bool.and_eq_true, Bool.not_eq_true'] at h
      exact h
    · rw [if_neg live]

theorem waitTurn_stays (h : s.startTest i = none) : s.waitTurn i = s := by
  unfold State.waitTurn
  rw [h]

theorem waitTurn_starts {f : StoredFrame} (h : s.startTest i = some f) (hr : (s.lane i).route = some r) :
    s.waitTurn i = (s.setLane i ((s.lane i).prime f)).recompute r := by
  unfold State.waitTurn
  rw [h]
  have bound : ((s.setLane i ((s.lane i).prime f)).lane i).route = some r := by
    rw [State.setLane_lane_self]
    exact hr
  have same : s.modLane i (Lane.prime f) = s.setLane i ((s.lane i).prime f) := rfl
  dsimp only
  rw [same]
  unfold State.recomputeLane
  rw [bound]

/-! ### A sole consumer (R115) -/

theorem holds_single {q : Seq} (own : (s.lane i).holdOn r = some q) (others : ∀ j, j ≠ i → (s.lane j).holdOn r = none) :
    s.holds r = [q] := by
  obtain ⟨pre, post, split, earlier, later, -⟩ := allLanes_split i
  have before : pre.filterMap (fun j => (s.lane j).holdOn r) = [] :=
    List.filterMap_eq_nil_iff.mpr fun j hj => others j (ne_of_lt ((earlier j).mp hj))
  have after : post.filterMap (fun j => (s.lane j).holdOn r) = [] :=
    List.filterMap_eq_nil_iff.mpr fun j hj => others j (ne_of_gt ((later j).mp hj))
  rw [holds_eq, split, List.filterMap_append, List.filterMap_cons, before, after, own]
  rfl

/-- R115, R133: the lane started is the route's only consumer, and the release point moves to its frame. -/
theorem start_followed {f : StoredFrame} (stop : ∀ j, j ≠ i → (s.lane j).state = .stop) (hr : (s.lane i).route = some r) :
    ReleaseFollowed [f.seq] (s.route r) (((s.setLane i ((s.lane i).prime f)).recompute r).route r) := by
  have holds : (s.setLane i ((s.lane i).prime f)).holds r = [f.seq] := by
    refine holds_single (i := i) ?_ fun j hj => ?_
    · rw [State.setLane_lane_self]
      simp [Lane.holdOn, Lane.prime, Lane.consuming, Lane.hold, hr]
    · rw [State.setLane_lane_ne s i j _ hj]
      exact holdOn_idle (.inr (stop j hj)) r
  rw [← holds]
  exact recompute_followed (s := s.setLane i ((s.lane i).prime f)) r

theorem waiting_turn (h : (s.lane i).state = .wait) : s.laneTurn i = (s.waitTurn i).handSilence i := by
  unfold State.laneTurn
  rw [h]

end Sys2Proof.Machine

namespace Sys2Proof.Proofs

open Sys2Proof.Machine Sys2Proof.Safety

/-- Settles O29: the start test finds the nearest candidate, or the lane stays. -/
theorem waitingLaneStarts : Obligations.WaitingLaneStarts := by
  unfold Obligations.WaitingLaneStarts
  intro s now sns0 sns1 i r c rp m ready due wait stop hr hc release map target candidate admits open'
  obtain ⟨reads, out, t, run, sole⟩ := instant_sole (sns0 := sns0) (sns1 := sns1) ready due stop
  set u := (s.clockTo now).marked.dressed reads out with hu
  have lane : ∀ k, u.lane k = s.lane k := State.clockTo_lane s now
  have route : ∀ q, u.route q = s.route q := State.clockTo_route s now
  have routes : u.routes = s.routes := State.clockTo_routes s now
  have slot : ∀ k, u.slot k = s.slot k := State.clockTo_slot s now
  have input : ∀ k, u.input k = s.input k := State.clockTo_input s now
  have lmc : u.time.lmc = now := State.clockTo_lmc s now
  clear_value u
  have aim : u.target i m = target := by rw [target_eq, lane, lmc]
  have opens : startOpen r c u ↔ open' := by
    unfold startOpen
    rw [route, slot, admits_iff, muted_of_inputs input, ← Bool.not_eq_true, muted_iff, not_or, Bool.not_eq_true, Bool.not_eq_true]
  obtain ⟨tests, shuts⟩ := startTest_eq (s := u) (i := i) (by rw [lane]; exact hr) (by rw [route]; exact hc)
    (by rw [route]; exact release) (by rw [slot]; exact map)
  rw [opens, aim, route] at tests
  rw [opens] at shuts
  have turn : u.laneTurn i = (u.waitTurn i).handSilence i := waiting_turn (by rw [lane]; exact wait)
  have t_lane : t.lane i = (u.waitTurn i).lane i := by rw [sole.lane, turn]; rfl
  have t_routes : t.routes = (u.waitTurn i).routes := by rw [sole.routes, turn]; rfl
  refine ⟨fun f opened hf least => ⟨t, run, ?_⟩, fun shut => ⟨t, run, ?_⟩⟩
  · have started := waitTurn_starts ((tests opened).trans (startFrame_some hf least)) (r := r) (by rw [lane]; exact hr)
    have followed := start_followed (s := u) (i := i) (f := f) (fun j hj => by rw [lane]; exact stop j hj) (by rw [lane]; exact hr)
    have t_route : t.route r = (u.waitTurn i).route r := by
      unfold State.route
      rw [t_routes]
    rw [started] at t_lane t_route
    rw [← t_route, route] at followed
    refine ⟨?_, ?_, followed⟩
    · rw [t_lane, recompute_lane, State.setLane_lane_self, lane]
      rfl
    · obtain ⟨forward, back⟩ := followed.2 rp f.seq release (by simp) (by simp)
      split
      · next h => exact (forward h).1
      · next h => exact (back (not_lt.mp h)).1
  · have none : u.startTest i = none := by
      by_cases opened : open'
      · rw [tests opened]
        exact startFrame_none (shut.resolve_left (not_not.mpr opened))
      · exact shuts opened
    rw [t_lane, t_routes, waitTurn_stays none, lane]
    exact ⟨rfl, routes⟩

end Sys2Proof.Proofs
end

section
/-! O28: the whole step of a lane (R134, R136 to R140, R142, R144, R146 to R150, R153, R154). -/

namespace Sys2Proof.Machine

open Sys2Proof.Safety

variable {s t x : State} {i : LaneId} {r : RouteId} {c : RouteConfig} {f : CurrentFrame} {h : Playhead}

/-! ### The frame entries of a step (R142, R144) -/

/-- R144: the loop makes its entries one after another, each from the part that the one before has left. -/
theorem entryLoop_made (i : LaneId) (c : RouteConfig) (n : Nat) : EntriesMade i { c with depth := n } s (s.entryLoop i n) := by
  induction n generalizing s with
  | zero =>
    refine ⟨0, le_refl _, fun j hj => absurd hj (Nat.not_lt_zero j), fun j hj => absurd hj (Nat.not_lt_zero _), .inl rfl, ?_, ?_⟩
    · rintro ⟨-, passed, play⟩
      exact if_pos ⟨(pastEnd_iff _).mpr passed, play⟩
    · intro stays
      exact if_neg fun ⟨passed, play⟩ => stays ⟨rfl, (pastEnd_iff _).mp passed, play⟩
  | succ n ih =>
    unfold State.entryLoop
    by_cases passed : (s.lane i).pastEnd = true
    · rw [if_pos passed]
      have first := (pastEnd_iff _).mp passed
      dsimp only
      by_cases leaves : (s.lane i).state = .play ∧ ((s.frameEntry i).lane i).state ≠ .play
      · rw [if_pos leaves]
        refine ⟨1, Nat.succ_le_succ (Nat.zero_le n), fun j hj => ?_, fun j hj => absurd hj (by omega), .inr (.inr ⟨0, rfl, leaves⟩),
          fun ⟨_, _, play⟩ => absurd play leaves.2, fun _ => rfl⟩
        obtain rfl : j = 0 := by omega
        exact first
      · rw [if_neg leaves]
        obtain ⟨k, bound, passes, goes, ends, realigns, stays⟩ := ih (s := s.frameEntry i)
        have last : k + 1 = n + 1 ↔ k = n := Nat.succ_inj
        refine ⟨k + 1, Nat.succ_le_succ bound, fun j hj => ?_, fun j hj => ?_, ?_, ?_, ?_⟩
        · cases j with
          | zero => exact first
          | succ j => exact passes j (Nat.lt_of_succ_lt_succ hj)
        · cases j with
          | zero => exact leaves
          | succ j => exact goes j (Nat.lt_of_succ_lt_succ hj)
        · rcases ends with all | reached | ⟨j, hj, leave⟩
          · exact .inl (last.mpr all)
          · exact .inr (.inl reached)
          · exact .inr (.inr ⟨j + 1, congrArg Nat.succ hj, leave⟩)
        · rintro ⟨all, still⟩
          exact realigns ⟨last.mp all, still⟩
        · intro none
          exact stays fun ⟨all, still⟩ => none ⟨last.mpr all, still⟩
    · rw [if_neg passed]
      exact ⟨0, Nat.zero_le _, fun j hj => absurd hj (Nat.not_lt_zero j), fun j hj => absurd hj (Nat.not_lt_zero _),
        .inr (.inl fun reached => passed ((pastEnd_iff _).mpr reached)), fun ⟨all, _⟩ => absurd all.symm (Nat.succ_ne_zero n),
        fun _ => rfl⟩

theorem entries_made (hr : (s.lane i).route = some r) (hc : (s.route r).config = some c) : EntriesMade i c s (s.entries i) := by
  unfold State.entries
  rw [laneRoute_of hr hc]
  exact entryLoop_made i c c.depth

theorem entries_played : Played i s (s.entries i) := entryLoop_played i _

theorem entries_goesOn : GoesOn (s.lane i) ((s.entries i).lane i) := entryLoop_goesOn i _

theorem entries_dressed {reads : Vector (List Nat) 4} {out : OutputPorts} :
    (s.dressed reads out).entries i = (s.entries i).dressed reads out := entryLoop_dressed i _

/-- R143, R152: an entry leaves the lane in a frame. -/
theorem frameEntry_current (h : (s.lane i).current.isSome) : ((s.frameEntry i).lane i).current.isSome := by
  have landed : ((s.landAtEntry i).lane i).current.isSome := by
    unfold State.landAtEntry
    split
    · split
      · split
        · rw [State.modLane_lane_self]
          exact h
        · rw [State.modLane_lane_self]
          exact h
      · rw [State.modLane_lane_self]
        exact h
    · exact h
  have conceals : ∀ (u : State) (r : RouteId) (c : RouteConfig) (f : CurrentFrame),
      ((u.concealNext i r c f).lane i).current.isSome := fun u r c f => by
    unfold State.concealNext
    rw [recompute_lane]
    exact congrArg (fun l : Lane => l.current.isSome) (State.modLane_lane_self u i (Lane.conceal c f))
  unfold State.frameEntry
  generalize s.landAtEntry i = u at landed ⊢
  dsimp only
  split
  · split
    · rw [recompute_lane, State.modLane_lane_self]
      rfl
    · exact conceals _ _ _ _
    · split <;> exact conceals _ _ _ _
    · exact conceals _ _ _ _
  · exact landed

theorem entryLoop_current (h : (s.lane i).current.isSome) (n : Nat) : ((s.entryLoop i n).lane i).current.isSome := by
  induction n generalizing s with
  | zero =>
    unfold State.entryLoop
    split
    · exact (congrArg (fun l : Lane => l.current.isSome) (State.modLane_lane_self s i (Lane.rampDown .wait))).trans h
    · exact h
  | succ n ih =>
    unfold State.entryLoop
    split
    · dsimp only
      split
      · exact frameEntry_current h
      · exact ih (frameEntry_current h)
    · exact h

theorem entries_current (h : (s.lane i).current.isSome) : ((s.entries i).lane i).current.isSome := entryLoop_current h _

/-! ### The fetch (R146 to R149) -/

theorem storedSample_page (c : RouteConfig) (q : Seq) : (s.storedSample c q 0).page = some (c.firstPage + q.toNat % c.depth * c.slotPages) :=
  rfl

theorem frameSample_at (c : RouteConfig) (l : Lane) (f : CurrentFrame) (j : Nat) :
    sampleAt s c l f j = ((s.frameSample c l f j).left, (s.frameSample c l f j).right) := by
  unfold State.frameSample sampleAt
  cases f.kind with
  | present => rfl
  | concealed => cases l.repeatSrc <;> rfl

theorem nextSample_within {l : Lane} {j : Nat} (h : j + 1 < f.n) : s.nextSample r c l f j = s.frameSample c l f (j + 1) := if_pos h

theorem nextSample_ahead {l : Lane} {j : Nat} (h : ¬ j + 1 < f.n) {g : StoredFrame} (hg : continuousNext (s.route r) c f = some g) :
    s.nextSample r c l f j = s.storedSample c g.seq 0 := by
  unfold State.nextSample
  rw [if_neg h, (classifyNext_continuous _ _ _ _).mpr hg]

theorem nextSample_last {l : Lane} {j : Nat} (h : ¬ j + 1 < f.n) (none : continuousNext (s.route r) c f = none) :
    s.nextSample r c l f j = s.frameSample c l f j := by
  unfold State.nextSample
  rw [if_neg h]
  split
  · next g hg =>
    rw [(classifyNext_continuous _ _ _ _).mp hg] at none
    cases none
  · rfl

theorem readPages_one (a : Option Nat) : readPages a none = a.toList := by cases a <;> rfl

theorem readPages_two (a b : Option Nat) : readPages a b = if a = b then a.toList else a.toList ++ b.toList := by
  cases a with
  | none => cases b <;> rfl
  | some p =>
    cases b with
    | none => rfl
    | some q => by_cases h : p = q <;> simp [readPages, h]

/-- R147: the fraction of a playhead between two samples. -/
theorem headFraction {o : Int} (h : ¬ o < 0) : o - ((o / 2 ^ 25).toNat : Int) * 2 ^ 25 = o % 2 ^ 25 := by
  have := Int.emod_add_mul_ediv o (2 ^ 25)
  omega

/-- R146 to R149: the pair and the pages of a fetch, in the terms of the spec. -/
theorem fetch_eq (hr : (s.lane i).route = some r) (hc : (s.route r).config = some c) (hf : (s.lane i).current = some f)
    (hh : (s.lane i).playhead = some h) : s.fetch i =
      ((pairAt s r c (s.lane i) f h).1, (pairAt s r c (s.lane i) f h).2, pagesAt s r c (s.lane i) f h) := by
  unfold State.fetch
  rw [laneRoute_of hr hc, hf, hh]
  generalize s.lane i = l
  unfold headOffset frameSpan pairAt pagesAt
  dsimp only
  generalize headDist (timeToHead f.pt) h = o
  by_cases before : o < 0
  · rw [if_pos before, if_pos before, if_pos before, readPages_one, frameSample_page, frameSample_at]
  · rw [if_neg before, if_neg before, if_neg before]
    by_cases past : (f.n : Int) * 2 ^ 25 ≤ o
    · rw [if_pos past, if_pos past, if_pos past, readPages_one, frameSample_page, frameSample_at]
    · rw [if_neg past, if_neg past, if_neg past, readPages_two, headFraction before, frameSample_page]
      generalize (o / 2 ^ 25).toNat = j
      by_cases within : j + 1 < f.n
      · rw [nextSample_within within, if_pos within, if_pos within, frameSample_page, frameSample_at, frameSample_at]
        rfl
      · rw [if_neg within, if_neg within]
        cases ahead : continuousNext (s.route r) c f with
        | none =>
          rw [nextSample_last within ahead, frameSample_page, frameSample_at]
          rfl
        | some g =>
          rw [nextSample_ahead within ahead, storedSample_page, frameSample_at]
          rfl

/-! ### The step (R136) -/

/-- R136: what a step leaves, of the part `w` that its frame entries leave. -/
structure StepLeft (i : LaneId) (d : Int) (w y : State) : Prop where
  lane : y.lane i = (w.lane i).stepped d
  routes : y.routes = w.routes
  cond : y.cond = w.cond
  reg : y.out.reg[i] = shapePair (w.lane i).shaping (w.fetch i).1 (w.fetch i).2.1
  reads : y.store.reads[i] = (w.fetch i).2.2
  store : ∀ v, { y.store with reads := v } = { w.store with reads := v }

theorem handed_left (d : Int) {reads : Vector (List Nat) 4} {out : OutputPorts} :
    StepLeft i d s (((s.dressed reads out).fetchAndHand i).modLane i (Lane.advance d)) := by
  have fetched : (s.dressed reads out).fetch i = s.fetch i := rfl
  have own : (s.dressed reads out).lane i = s.lane i := rfl
  have lane : ((((s.dressed reads out).fetchAndHand i).modLane i (Lane.advance d))).lane i = (s.lane i).stepped d := by
    rw [State.modLane_lane_self, fetchAndHand_handed, State.modLane_lane_self]
    rfl
  rw [fetchAndHand_handed, fetched, own] at lane ⊢
  generalize pair : shapePair (s.lane i).shaping (s.fetch i).1 (s.fetch i).2.1 = p at lane ⊢
  generalize asked : (s.fetch i).2.2 = pages at lane ⊢
  exact ⟨lane, rfl, rfl, (Vector.getElem_set_self i.isLt).trans pair.symm, (Vector.getElem_set_self i.isLt).trans asked.symm,
    fun _ => rfl⟩

theorem step_left (d : Int) {reads : Vector (List Nat) 4} {out : OutputPorts} :
    StepLeft i d (s.entries i) ((s.dressed reads out).stepFromEntry i d) := by
  rw [stepFromEntry_eq, entries_dressed]
  exact handed_left d

theorem advance_ramp (a : Option Ramp) : a.map Ramp.advance =
    match a with
    | none => none
    | some (.up m) => some (.up (m + 1))
    | some (.down count m dest) => some (.down (count + 1) (min 64 (m + 1)) dest) := by
  cases a with
  | none => rfl
  | some a => cases a <;> rfl

theorem stepped_record {l : Lane} (hh : l.playhead = some h) (d : Int) : l.stepped d =
    { l with
      playhead := some (h + BitVec.ofInt 64 d)
      ramp := match l.ramp with
        | none => none
        | some (.up m) => some (.up (m + 1))
        | some (.down count m dest) => some (.down (count + 1) (min 64 (m + 1)) dest) } := by
  unfold Lane.stepped
  rw [hh, advance_ramp]
  rfl

/-- R136: a sole lane's instant whose turn is a step from `x` makes that step. -/
theorem step_made {reads : Vector (List Nat) 4} {out : OutputPorts} (d : Int) (hr : (x.lane i).route = some r)
    (hc : (x.route r).config = some c) (hf : (x.lane i).current.isSome) (hh : (x.lane i).playhead = some h)
    (sole : SoleTurn i s ((x.dressed reads out).stepFromEntry i d) t) : StepMade i r c d x t := by
  have goes : GoesOn (x.lane i) ((x.entries i).lane i) := entries_goesOn
  have route : ((x.entries i).lane i).route = some r := goes.route.trans hr
  have playhead : ((x.entries i).lane i).playhead = some h := goes.playhead.trans hh
  have config : ((x.entries i).route r).config = some c := by rw [entries_played.route]; exact hc
  obtain ⟨g, current⟩ := Option.isSome_iff_exists.mp (entries_current hf)
  have made : EntriesMade i c x (x.entries i) := entries_made hr hc
  have fetched := fetch_eq route config current playhead
  have left : StepLeft i d (x.entries i) ((x.dressed reads out).stepFromEntry i d) := step_left d
  obtain ⟨lane, -, routes, cond, reg, granted⟩ := sole
  generalize (x.dressed reads out).stepFromEntry i d = y at left lane routes cond reg granted
  rw [left.reads, left.store, fetched] at granted
  rw [left.reg, fetched, ← handedOn_eq current] at reg
  exact ⟨x.entries i, g, h, made, current, playhead, (lane.trans left.lane).trans (stepped_record playhead d), reg, granted,
    routes.trans left.routes, cond.trans left.cond⟩

/-! ### The turn of a lane in PLAY or RAMPDOWN (R136, R137) -/

theorem realigned_dressed {reads : Vector (List Nat) 4} {out : OutputPorts} :
    (s.dressed reads out).realigned i = (s.realigned i).dressed reads out := by
  have error : (s.dressed reads out).errorOf i = s.errorOf i := rfl
  have own : (s.dressed reads out).lane i = s.lane i := rfl
  unfold State.realigned
  rw [error, own]
  split <;> rfl

theorem realigned_kept : ((s.realigned i).lane i).current = (s.lane i).current ∧ (s.realigned i).routes = s.routes := by
  unfold State.realigned
  split
  · exact ⟨(congrArg Lane.current (State.modLane_lane_self s i (Lane.rampDown .wait))).trans rfl, rfl⟩
  · exact ⟨rfl, rfl⟩

theorem realigned_unmapped (map : s.laneMap i = none) : s.realigned i = s := by
  have error : s.errorOf i = none := by
    unfold State.errorOf
    rw [map]
  unfold State.realigned mustRealign
  rw [error]
  cases (s.lane i).state <;> rfl

theorem realigned_mapped {m : TimelineMap} (map : s.laneMap i = some m) (hh : (s.lane i).playhead = some h) :
    s.realigned i =
      if (s.lane i).state = .play ∧ 2 ^ 33 < (headDist h (timeToHead (s.target i m))).natAbs then
        (s.setLane i (rampingDown .wait (s.lane i))).raise .realigned
      else s := by
  have error : s.errorOf i = some (m, headDist h (timeToHead (s.target i m))) := by
    unfold State.errorOf
    rw [map, hh]
  have must : mustRealign (s.lane i).state (s.errorOf i) = true ↔
      (s.lane i).state = .play ∧ 2 ^ 33 < (headDist h (timeToHead (s.target i m))).natAbs := by
    rw [error]
    cases (s.lane i).state <;> simp [mustRealign]
  unfold State.realigned
  exact if_congr must rfl rfl

/-- R136: the instant of a sole lane that plays is a step from the part as the realign leaves it. -/
theorem playing_step {reads : Vector (List Nat) 4} {out : OutputPorts} (plays : (s.lane i).state = .play ∨ (s.lane i).state = .rampdown)
    (hr : (s.lane i).route = some r) (hc : (s.route r).config = some c) (hf : (s.lane i).current = some f)
    (hh : (s.lane i).playhead = some h) (sole : SoleTurn i s ((s.dressed reads out).laneTurn i) t) :
    StepMade i r c (advanceOf (s.errorOf i)) (s.realigned i) t := by
  have goes : GoesOn (s.lane i) ((s.realigned i).lane i) := realigned_goesOn
  obtain ⟨current, routes⟩ := realigned_kept (s := s) (i := i)
  have turn : (s.dressed reads out).laneTurn i =
      ((s.realigned i).dressed reads out).stepFromEntry i (advanceOf (s.errorOf i)) := by
    rw [laneTurn_playing (s := s.dressed reads out) plays, playTurn_eq, realigned_dressed]
    rfl
  rw [turn] at sole
  refine step_made _ (goes.route.trans hr) ?_ ?_ (goes.playhead.trans hh) sole
  · unfold State.route at hc ⊢
    rw [routes]
    exact hc
  · rw [current, hf]
    rfl

/-! ### The turn of a lane in PRIME (R134) -/

theorem primeTurn_starts {m : TimelineMap} (prime : (s.lane i).state = .prime) (map : s.laneMap i = some m)
    (hf : (s.lane i).current = some f) (reached : 0 ≤ timeDist f.pt (s.target i m)) :
    s.laneTurn i = (s.modLane i (Lane.startPlay (s.target i m))).stepFromEntry i (33554432 + 2 * m.trim) := by
  unfold State.laneTurn State.primeTurn
  rw [prime, map, hf]
  exact (if_pos reached).trans (congrArg (State.stepFromEntry i · _) (Int.add_zero _))

theorem primeTurn_waits {m : TimelineMap} (prime : (s.lane i).state = .prime) (map : s.laneMap i = some m)
    (hf : (s.lane i).current = some f) (ahead : timeDist f.pt (s.target i m) < 0) : s.laneTurn i = s.handSilence i := by
  unfold State.laneTurn State.primeTurn
  rw [prime, map, hf]
  exact if_neg (not_le.mpr ahead)

/-- R134: the instant of a sole lane whose target has reached its start frame is a step with the playhead on the target. -/
theorem starting_step {reads : Vector (List Nat) 4} {out : OutputPorts} {m : TimelineMap} (prime : (s.lane i).state = .prime)
    (hr : (s.lane i).route = some r) (hc : (s.route r).config = some c) (map : (s.slot c.slot).map = some m)
    (hf : (s.lane i).current = some f) (reached : 0 ≤ timeDist f.pt (s.target i m))
    (sole : SoleTurn i s ((s.dressed reads out).laneTurn i) t) :
    StepMade i r c (33554432 + 2 * m.trim) (s.setLane i ((s.lane i).startPlay (s.target i m))) t := by
  have turn : (s.dressed reads out).laneTurn i =
      ((s.setLane i ((s.lane i).startPlay (s.target i m))).dressed reads out).stepFromEntry i (33554432 + 2 * m.trim) :=
    primeTurn_starts (s := s.dressed reads out) prime ((laneMap_of (s := s) hr hc).trans map) hf reached
  rw [turn] at sole
  have own : (s.setLane i ((s.lane i).startPlay (s.target i m))).lane i = (s.lane i).startPlay (s.target i m) :=
    State.setLane_lane_self s i _
  refine step_made (h := timeToHead (s.target i m)) _ ?_ hc ?_ ?_ sole
  · rw [own]
    exact hr
  · rw [own]
    exact Option.isSome_iff_exists.mpr ⟨f, hf⟩
  · rw [own]
    rfl

end Sys2Proof.Machine

namespace Sys2Proof.Proofs

open Sys2Proof.Machine Sys2Proof.Safety

/-- Settles O28: the instant of a sole lane is one step, from the part as a realign or the start of PLAY leaves it. -/
theorem laneSteps : Obligations.LaneSteps := by
  unfold Obligations.LaneSteps
  intro s now sns0 sns1 i r c f ready due stop hr hc hf u target
  obtain ⟨reads, out, t, run, sole⟩ := instant_sole (sns0 := sns0) (sns1 := sns1) ready due stop
  have marked : (s.clockTo now).marked = u := rfl
  rw [marked] at sole
  have lane : ∀ k, u.lane k = s.lane k := State.clockTo_lane s now
  have route : ∀ q, u.route q = s.route q := State.clockTo_route s now
  have slot : ∀ k, u.slot k = s.slot k := State.clockTo_slot s now
  have lmc : u.time.lmc = now := State.clockTo_lmc s now
  clear_value u
  have aim : ∀ m, u.target i m = target m := fun m => by rw [target_eq, lmc, lane]
  rw [← lane] at hr hf ⊢
  rw [← route] at hc
  rw [← slot]
  have map := laneMap_of hr hc
  have others : ∀ j, j ≠ i → t.lane j = s.lane j := fun j hj => (sole.others j hj).trans (lane j)
  refine ⟨fun h plays hh => ?_, fun m prime hm reached => ⟨t, run, ?_, others⟩⟩
  · have step := playing_step plays hr hc hf hh sole
    have advance := advanceOf_error hr hc hh
    refine ⟨fun unmapped => ⟨t, run, ?_, others⟩, fun m hm => ⟨t, run, ?_, others⟩⟩
    · rw [unmapped] at map advance
      rw [realigned_unmapped map, advance] at step
      exact step
    · rw [hm] at map advance
      rw [realigned_mapped map hh, aim, advance, lmc, lane] at step
      rw [lane]
      exact step
  · rw [← aim m] at reached ⊢
    exact starting_step prime hr hc hm hf reached sole

end Sys2Proof.Proofs
end

section
/-! O30: a primed lane waits for its start frame, and plays from its target (R134, R138, R139, R146 to R150). -/

namespace Sys2Proof.Machine

open Sys2Proof.Safety

variable {s t u w : State} {i : LaneId} {r : RouteId} {c : RouteConfig} {f : CurrentFrame}

/-! ### Playheads with fraction 0 -/

theorem timeToHead_toNat (a : Time) : (timeToHead a).toNat = a.toNat * 65536 := by
  have := a.isLt
  unfold timeToHead
  rw [BitVec.toNat_shiftLeft, BitVec.toNat_setWidth, Nat.shiftLeft_eq, Nat.mod_eq_of_lt (a := a.toNat) (by omega)]
  exact Nat.mod_eq_of_lt (by omega)

/-- R134: the distance of two group times as playheads is their distance in ticks, times 2^16. -/
theorem headDist_times (b a : Time) : headDist (timeToHead b) (timeToHead a) = timeDist b a * 65536 := by
  have ha := a.isLt
  have hb := b.isLt
  unfold headDist timeDist
  rw [BitVec.toInt_eq_toNat_cond, BitVec.toInt_eq_toNat_cond, BitVec.toNat_sub, BitVec.toNat_sub, timeToHead_toNat,
    timeToHead_toNat]
  omega

/-! ### A step inside a frame -/

/-- R142: a step whose playhead lies before the frame's end makes no frame entry. -/
theorem entriesMade_within (made : EntriesMade i c u w) (within : ¬ endPassed (u.lane i)) : w = u := by
  obtain ⟨k, -, passes, -, -, -, stays⟩ := made
  cases k with
  | zero => exact stays fun ⟨_, passed, _⟩ => within passed
  | succ k => exact absurd (passes 0 (Nat.succ_pos k)) within

/-- R146, R147: the pair at a group time inside a present frame. -/
theorem pairAt_within {l : Lane} {target : Time} {j : Nat} (present : f.kind = .present) (reached : 0 ≤ timeDist f.pt target)
    (index : timeDist f.pt target / 512 = j) (within : j + 1 < f.n) :
    pairAt s r c l f (timeToHead target) =
      (interpolate (readStored s.store.mem (frameSampleAddress c f.seq j)).left.toInt
        (readStored s.store.mem (frameSampleAddress c f.seq (j + 1))).left.toInt (timeDist f.pt target % 512 * 128),
       interpolate (readStored s.store.mem (frameSampleAddress c f.seq j)).right.toInt
        (readStored s.store.mem (frameSampleAddress c f.seq (j + 1))).right.toInt (timeDist f.pt target % 512 * 128)) := by
  have stored : ∀ k, sampleAt s c l f k = ((readStored s.store.mem (frameSampleAddress c f.seq k)).left.toInt,
      (readStored s.store.mem (frameSampleAddress c f.seq k)).right.toInt) := fun k => by
    unfold sampleAt
    rw [present]
  unfold pairAt
  rw [headDist_times]
  generalize timeDist f.pt target = past at *
  have after : ¬ past * 65536 < 0 := by omega
  have before : ¬ (f.n : Int) * 2 ^ 25 ≤ past * 65536 := by omega
  have sample : (past * 65536 / 2 ^ 25).toNat = j := by omega
  have fraction : past * 65536 % 2 ^ 25 / 512 = past % 512 * 128 := by omega
  dsimp only
  rw [if_neg after, if_neg before, sample, fraction, if_pos within, stored, stored]
  rfl

theorem not_endPassed_within {l : Lane} {target : Time} {j : Nat} (hf : l.current = some f)
    (hh : l.playhead = some (timeToHead target)) (index : timeDist f.pt target / 512 = j) (within : j + 1 < f.n) :
    ¬ endPassed l := by
  rintro ⟨h, g, hh', hf', passed⟩
  rw [hh] at hh'
  rw [hf] at hf'
  cases hh'
  cases hf'
  rw [headDist_times] at passed
  omega

/-! ### Silence handed on -/

theorem handSilence_left (i : LaneId) : (s.handSilence i).out.reg[i] = { left := 0, right := 0 } ∧
    (s.handSilence i).store.reads[i] = [] := by
  rw [handSilence_handed, shapePair_zero]
  exact ⟨Vector.getElem_set_self i.isLt, Vector.getElem_set_self i.isLt⟩

theorem replicate_set_self (i : LaneId) : (Vector.replicate 4 ([] : List Nat)).set i.val [] i.isLt = Vector.replicate 4 [] := by
  refine Vector.ext fun k hk => ?_
  rw [Vector.getElem_set, Vector.getElem_replicate, ite_self]

end Sys2Proof.Machine

namespace Sys2Proof.Proofs

open Sys2Proof.Machine Sys2Proof.Safety

/-- Settles O30: silence before the start frame, and then one step inside the frame. -/
theorem primedLanePlays : Obligations.PrimedLanePlays := by
  unfold Obligations.PrimedLanePlays
  intro s now sns0 sns1 i r c f m ready due prime stop hr hc hm hf present target past
  obtain ⟨reads, out, t, run, sole⟩ := instant_sole (sns0 := sns0) (sns1 := sns1) ready due stop
  have lane : ∀ k, (s.clockTo now).marked.lane k = s.lane k := State.clockTo_lane s now
  have route : ∀ q, (s.clockTo now).marked.route q = s.route q := State.clockTo_route s now
  have routes : (s.clockTo now).marked.routes = s.routes := State.clockTo_routes s now
  have slot : ∀ k, (s.clockTo now).marked.slot k = s.slot k := State.clockTo_slot s now
  have store : (s.clockTo now).marked.store = s.store := State.clockTo_store s now
  have lmc : (s.clockTo now).marked.time.lmc = now := State.clockTo_lmc s now
  generalize (s.clockTo now).marked = u at *
  have aim : u.target i m = target := by rw [target_eq, lmc, lane]
  rw [← lane] at prime hr hf ⊢
  rw [← route] at hc
  rw [← slot] at hm
  refine ⟨fun ahead => ⟨t, run, ?_⟩, fun j reached index within => ?_⟩
  · have turn : (u.dressed reads out).laneTurn i = (u.dressed reads out).handSilence i :=
      primeTurn_waits (s := u.dressed reads out) prime ((laneMap_of (s := u) hr hc).trans hm) hf
        (lt_of_eq_of_lt (congrArg (timeDist f.pt) aim) ahead)
    rw [turn] at sole
    obtain ⟨reg, asked⟩ := handSilence_left (s := u.dressed reads out) i
    have granted := sole.granted
    rw [asked, replicate_set_self] at granted
    refine ⟨sole.lane, sole.reg.trans reg, sole.routes.trans routes, ?_⟩
    rw [← store]
    exact granted
  · intro x y phi between
    have step := starting_step prime hr hc hm hf (le_of_le_of_eq reached (congrArg (timeDist f.pt) aim.symm)) sole
    rw [aim] at step
    obtain ⟨w, g, h, made, current, playhead, moved, reg, -, kept, -⟩ := step
    have own : (u.setLane i ((u.lane i).startPlay target)).lane i = (u.lane i).startPlay target := State.setLane_lane_self u i _
    have inside : ¬ endPassed ((u.setLane i ((u.lane i).startPlay target)).lane i) := by
      rw [own]
      exact not_endPassed_within (l := (u.lane i).startPlay target) hf rfl index within
    obtain rfl := entriesMade_within made inside
    rw [own] at current playhead moved reg
    obtain rfl : f = g := Option.some.inj (hf.symm.trans current)
    obtain rfl : timeToHead target = h := Option.some.inj playhead
    have stored : (u.setLane i ((u.lane i).startPlay target)).store = s.store := store
    rw [handedOn_eq current, pairAt_within present reached index within, stored] at reg
    exact ⟨t, run, moved, reg, kept.trans routes⟩

end Sys2Proof.Proofs
end
